-- ==== Sys2Proof/Word.lean ====
section
/-!
DEFINITION. The two word types of CORE. A byte is the unit of addressing of every data memory
(20_memory.md R51); every register and every cipher word is 32 bits wide (10_state.md section 6, R25 to R28).
Their plainest arithmetic (wrapping addition and multiplication, bitwise operations, logical shifts within the
width: 00_scope.md R16) is that of `BitVec`. Rotations, byte orders and bit fields are in Machine/Bits.lean.
-/

namespace Sys2Proof

/-- An 8-bit byte. -/
abbrev Byte := BitVec 8

/-- A 32-bit word: a register, a command word, a word of a cipher engine. -/
abbrev Word := BitVec 32

end Sys2Proof
end

