-- ==== Sys2Proof/Config.lean ====
section
/-!
DEFINITION. What is fixed for one CORE and what the spec leaves free: the parameters of 00_scope.md R13 with the
ROM tables (R14, 48_reference_roms.md R166), and the opaque constants that stand for values the spec says may be
any value (93_implementation_defined.md U1, U3). The reference contents are in Machine/Rom.lean.
-/

namespace Sys2Proof

/-- A 256-entry byte table, in the 16 rows of 16 that 48_reference_roms.md prints. -/
abbrev ByteTable := Vector (Vector Byte 16) 16

/-- A 256-entry word table, in the 32 rows of 8 that 48_reference_roms.md prints. -/
abbrev WordTable := Vector (Vector Word 8) 32

/-- The ROM set of 48_reference_roms.md R166: read-only, identical for all contexts, present from HRESET.
No engine rule reads `blkS` itself; `blkT0` to `blkT4` and `blkRc` are built from it (45_block_cipher.md R155). -/
structure Rom where
  lfS0 : ByteTable
  lfS1 : ByteTable
  lfD128 : Vector (BitVec 15) 16
  lfD256 : Vector (BitVec 7) 16
  ctrA : Vector Word 8
  srpSb : Vector (Vector (BitVec 4) 16) 8
  srpPhi : Word
  srpMula : WordTable
  srpDiva : WordTable
  blkS : ByteTable
  blkT0 : WordTable
  blkT1 : WordTable
  blkT2 : WordTable
  blkT3 : WordTable
  blkT4 : WordTable
  blkT5 : WordTable
  blkRc : Vector Word 16
deriving DecidableEq, Repr

/-- The parameters of 00_scope.md R13 and the base address of 20_memory.md R55. -/
structure Config where
  /-- `NCTX`, the number of contexts. -/
  nctx : Nat
  /-- `NSNAP`, the number of snapshot slots. -/
  nsnap : Nat
  /-- `IBUF_SIZE`, bytes. -/
  ibufSize : Nat
  /-- `OBUF_SIZE`, bytes. -/
  obufSize : Nat
  /-- `KEYBUF_SIZE`, bytes. -/
  keybufSize : Nat
  /-- `IVBUF_SIZE`, bytes. -/
  ivbufSize : Nat
  /-- `CORE_BASE`, the address of CORE's region. -/
  coreBase : Nat
  /-- `LF_MAX[LF128]`, keystream words per INIT or RESET. -/
  lfMax128 : Nat
  /-- `LF_MAX[LF256]`. -/
  lfMax256 : Nat
  rom : Rom
deriving DecidableEq, Repr

/-- The ranges that 00_scope.md R13 gives the parameters; the word limits are those of 10_state.md R32 (92 D21). -/
structure Config.InRange (cfg : Config) : Prop where
  nctx_pos : 1 ≤ cfg.nctx
  nctx_le : cfg.nctx ≤ 16
  nsnap_pos : 1 ≤ cfg.nsnap
  nsnap_le : cfg.nsnap ≤ 16
  ibuf_ge : 16 ≤ cfg.ibufSize
  ibuf_le : cfg.ibufSize ≤ 65536
  obuf_ge : 16 ≤ cfg.obufSize
  obuf_le : cfg.obufSize ≤ 65536
  keybuf_eq : cfg.keybufSize = 32
  ivbuf_eq : cfg.ivbufSize = 32
  lfMax128_eq : cfg.lfMax128 = 2047
  lfMax256_eq : cfg.lfMax256 = 625

/-- The four byte memories (10_state.md R45), each an address space of its own. -/
inductive Buffer where
  | keybuf | ivbuf | ibuf | obuf
deriving DecidableEq, Repr

/-- How many bytes a memory has (00_scope.md R13, 10_state.md R45). -/
def Config.size (cfg : Config) : Buffer → Nat
  | .keybuf => cfg.keybufSize
  | .ivbuf => cfg.ivbufSize
  | .ibuf => cfg.ibufSize
  | .obuf => cfg.obufSize

/-- FREE VALUE (log 1). The byte an address of a memory holds after HRESET until something is written there: "each
byte may hold any value, and a model must not assume 0" (10_state.md R49, 93 U1). No body: nothing can be proved of
its value. -/
opaque Config.powerOnByte : Buffer → Nat → Byte

/-- FREE VALUE (log 2). The byte that the `n`-th PROCESS ending in WORD_LIMIT leaves at an `OBUF` address of its
range: "each may hold its old value, a correct output byte, or any other value" (40_contract.md R92, 93 U3). -/
opaque Config.residueByte : Nat → Nat → Byte

end Sys2Proof
end

