-- ==== Sys2Proof/Syntax.lean ====
section
/-!
DEFINITION. CORE's instructions: its commands (30_encoding.md R70). One constructor of `Instr` for each of the eleven
rows of opcode_table.json (30_encoding.md R78).
-/

namespace Sys2Proof

/-- The five engines (00_scope.md R2). -/
inductive Engine where
  | lf128 | lf256 | ctr | srp | blk
deriving DecidableEq, Repr

/-- The operand fields of format I beside the context and the engine (30_encoding.md R71, R72). -/
structure InitOperands where
  /-- `DIR`: true for encryption. -/
  dir : Bool
  /-- `HASKEY`: a key is supplied in `KEYBUF`. -/
  hasKey : Bool
  /-- `HASIV`: an IV is supplied in `IVBUF`. -/
  hasIv : Bool
  /-- `KLEN`: key length in bytes. -/
  klen : BitVec 8
  /-- `IVLEN`: IV length in bytes. -/
  ivlen : BitVec 8
deriving DecidableEq, Repr

/-- A command. `ctx` and `slot` are the 4-bit index fields `CTX` and `SLOT` of the command word; PROCESS takes its
other operands from `ARG0`, `ARG1`, `ARG2` (30_encoding.md R74). -/
inductive Instr where
  | initLf128 (ctx : BitVec 4) (ops : InitOperands)
  | initLf256 (ctx : BitVec 4) (ops : InitOperands)
  | initCtr (ctx : BitVec 4) (ops : InitOperands)
  | initSrp (ctx : BitVec 4) (ops : InitOperands)
  | initBlk (ctx : BitVec 4) (ops : InitOperands)
  | process (ctx : BitVec 4)
  | retbyte (ctx : BitVec 4) (byte : Byte)
  | reset (ctx : BitVec 4)
  | snapshot (ctx : BitVec 4) (slot : BitVec 4)
  | restore (ctx : BitVec 4) (slot : BitVec 4)
  | drop (ctx : BitVec 4)
deriving DecidableEq, Repr

/-- The `CTX` operand of a command. -/
def Instr.ctxOf : Instr → BitVec 4
  | .initLf128 c _ | .initLf256 c _ | .initCtr c _ | .initSrp c _ | .initBlk c _ => c
  | .process c => c
  | .retbyte c _ => c
  | .reset c => c
  | .snapshot c _ => c
  | .restore c _ => c
  | .drop c => c

end Sys2Proof
end

