-- ==== Sys2Proof/WellFormed.lean ====
section
/-!
DEFINITION. Which commands are well formed. The field widths are in the types; the one check that remains is
30_encoding.md R73: without a key (an IV) its length field is 0. Indices at or above `NCTX` or `NSNAP` and lengths
above 32 are legal encodings (R71, R73): they end in errors of the command, not of the decoder.
-/

namespace Sys2Proof

/-- 30_encoding.md R73. -/
def InitOperands.wellFormed (a : InitOperands) : Bool :=
  (a.hasKey || a.klen == 0#8) && (a.hasIv || a.ivlen == 0#8)

/-- A command that has an encoding (30_encoding.md R79). -/
def Instr.wellFormed : Instr → Bool
  | .initLf128 _ a => a.wellFormed
  | .initLf256 _ a => a.wellFormed
  | .initCtr _ a => a.wellFormed
  | .initSrp _ a => a.wellFormed
  | .initBlk _ a => a.wellFormed
  | .process _ => true
  | .retbyte _ _ => true
  | .reset _ => true
  | .snapshot _ _ => true
  | .restore _ _ => true
  | .drop _ => true

end Sys2Proof
end

