-- ==== Sys2Proof/Decode.lean ====
section
/-!
DEFINITION. The command decoder and, after it, the encoder (30_encoding.md R71 to R79). The decoder is total on any
32-bit word and rejects by name; every rejection is the one error USAGE/ILLEGAL_CMD (R79).
-/

namespace Sys2Proof

/-- Why a word is no legal command, in the order 30_encoding.md R79 lists the reasons. -/
inductive DecodeError where
  /-- `OP` is 0 or 8..15. -/
  | reservedOp
  /-- A field its format marks 0 is not zero. -/
  | mustBeZero
  /-- INIT with `ENG` 0, 5, 6, 8 or 9..15 (R77). -/
  | reservedEngine
  /-- `HASKEY = 0` with `KLEN` not 0 (R73). -/
  | keyLengthWithoutKey
  /-- `HASIV = 0` with `IVLEN` not 0 (R73). -/
  | ivLengthWithoutIv
deriving DecidableEq, Repr

/-- `OP = cw[31:28]` (30_encoding.md R71). -/
def opField (cw : Word) : BitVec 4 := cw.extractLsb' 28 4

/-- `CTX = cw[27:24]` (30_encoding.md R71). -/
def ctxField (cw : Word) : BitVec 4 := cw.extractLsb' 24 4

/-- `ENG` of format I, and `SLOT` of format S: `cw[23:20]` (30_encoding.md R71). -/
def engField (cw : Word) : BitVec 4 := cw.extractLsb' 20 4

/-- `DIR`, `HASKEY`, `HASIV`, `KLEN`, `IVLEN` of format I (30_encoding.md R71). -/
def initFields (cw : Word) : InitOperands where
  dir := cw.getLsbD 19
  hasKey := cw.getLsbD 18
  hasIv := cw.getLsbD 17
  klen := cw.extractLsb' 8 8
  ivlen := cw.extractLsb' 0 8

/-- `ENG` values (30_encoding.md R76). -/
def Engine.id : Engine → BitVec 4
  | .lf128 => 1
  | .lf256 => 2
  | .ctr => 3
  | .srp => 4
  | .blk => 7

/-- The engine an `ENG` value names; the reserved values name none (30_encoding.md R76, R77). -/
def engineOfId (id : BitVec 4) : Option Engine :=
  if id = 1 then some .lf128
  else if id = 2 then some .lf256
  else if id = 3 then some .ctr
  else if id = 4 then some .srp
  else if id = 7 then some .blk
  else none

/-- INIT of an engine: the row of the opcode table (30_encoding.md R78). -/
def initOf (eng : Engine) (ctx : BitVec 4) (ops : InitOperands) : Instr :=
  match eng with
  | .lf128 => .initLf128 ctx ops
  | .lf256 => .initLf256 ctx ops
  | .ctr => .initCtr ctx ops
  | .srp => .initSrp ctx ops
  | .blk => .initBlk ctx ops

/-- Format I (30_encoding.md R71, R73, R77). -/
def decodeInit (cw : Word) : Except DecodeError Instr :=
  if cw.getLsbD 16 then .error .mustBeZero
  else
    match engineOfId (engField cw) with
    | none => .error .reservedEngine
    | some eng =>
      let ops := initFields cw
      if ops.hasKey = false ∧ ops.klen ≠ 0#8 then .error .keyLengthWithoutKey
      else if ops.hasIv = false ∧ ops.ivlen ≠ 0#8 then .error .ivLengthWithoutIv
      else .ok (initOf eng (ctxField cw) ops)

/-- Format Z: bits 23:0 must be zero (30_encoding.md R71). -/
def decodeZ (cw : Word) (make : BitVec 4 → Instr) : Except DecodeError Instr :=
  if cw.extractLsb' 0 24 = 0#24 then .ok (make (ctxField cw)) else .error .mustBeZero

/-- Format B: bits 23:8 must be zero (30_encoding.md R71). -/
def decodeB (cw : Word) (make : BitVec 4 → Byte → Instr) : Except DecodeError Instr :=
  if cw.extractLsb' 8 16 = 0#16 then .ok (make (ctxField cw) (cw.extractLsb' 0 8)) else .error .mustBeZero

/-- Format S: bits 19:0 must be zero (30_encoding.md R71). -/
def decodeS (cw : Word) (make : BitVec 4 → BitVec 4 → Instr) : Except DecodeError Instr :=
  if cw.extractLsb' 0 20 = 0#20 then .ok (make (ctxField cw) (engField cw)) else .error .mustBeZero

/-- The command a word stands for (30_encoding.md R75, R78, R79). -/
def decode (cw : Word) : Except DecodeError Instr :=
  let op := opField cw
  if op = 1 then decodeInit cw
  else if op = 2 then decodeZ cw .process
  else if op = 3 then decodeB cw .retbyte
  else if op = 4 then decodeZ cw .reset
  else if op = 5 then decodeS cw .snapshot
  else if op = 6 then decodeS cw .restore
  else if op = 7 then decodeZ cw .drop
  else .error .reservedOp

/-- The instruction the decoder reads from a table row's word. Every command is one 32-bit word whose bit `i` is bit
`i` of the register write (30_encoding.md R70), so there is no layout in a memory. -/
def decodeTableWord (nbits w : Nat) : Option Instr :=
  (decode (BitVec.ofNat 32 (w % 2 ^ nbits))).toOption

/-- Format I (30_encoding.md R71): OP ‖ CTX ‖ ENG ‖ DIR ‖ HASKEY ‖ HASIV ‖ 0 ‖ KLEN ‖ IVLEN. -/
def encodeInit (eng : Engine) (c : BitVec 4) (a : InitOperands) : Word :=
  1#4 ++ c ++ eng.id ++ BitVec.ofBool a.dir ++ BitVec.ofBool a.hasKey ++ BitVec.ofBool a.hasIv ++ 0#1 ++ a.klen
    ++ a.ivlen

/-- Format Z (30_encoding.md R71). -/
def encodeZ (op c : BitVec 4) : Word := op ++ c ++ 0#24

/-- Format B (30_encoding.md R71). -/
def encodeB (op c : BitVec 4) (byte : Byte) : Word := op ++ c ++ 0#16 ++ byte

/-- Format S (30_encoding.md R71). -/
def encodeS (op c k : BitVec 4) : Word := op ++ c ++ k ++ 0#20

/-- The command word of a command (30_encoding.md R71, R75, R76). -/
def encode : Instr → Word
  | .initLf128 c a => encodeInit .lf128 c a
  | .initLf256 c a => encodeInit .lf256 c a
  | .initCtr c a => encodeInit .ctr c a
  | .initSrp c a => encodeInit .srp c a
  | .initBlk c a => encodeInit .blk c a
  | .process c => encodeZ 2 c
  | .retbyte c b => encodeB 3 c b
  | .reset c => encodeZ 4 c
  | .snapshot c k => encodeS 5 c k
  | .restore c k => encodeS 6 c k
  | .drop c => encodeZ 7 c

/-- One row of the opcode table: a word belongs to it when `word and mask = pattern` (30_encoding.md R78). -/
structure OpcodeRow where
  mask : Word
  pattern : Word
deriving DecidableEq, Repr

/-- Whether a word matches a row (30_encoding.md R78). -/
def OpcodeRow.matches (r : OpcodeRow) (cw : Word) : Bool := cw &&& r.mask == r.pattern

/-- The row of each command (30_encoding.md R78). -/
def opcodeRow : Instr → OpcodeRow
  | .initLf128 _ _ => ⟨0xF0F10000, 0x10100000⟩
  | .initLf256 _ _ => ⟨0xF0F10000, 0x10200000⟩
  | .initCtr _ _ => ⟨0xF0F10000, 0x10300000⟩
  | .initSrp _ _ => ⟨0xF0F10000, 0x10400000⟩
  | .initBlk _ _ => ⟨0xF0F10000, 0x10700000⟩
  | .process _ => ⟨0xF0FFFFFF, 0x20000000⟩
  | .retbyte _ _ => ⟨0xF0FFFF00, 0x30000000⟩
  | .reset _ => ⟨0xF0FFFFFF, 0x40000000⟩
  | .snapshot _ _ => ⟨0xF00FFFFF, 0x50000000⟩
  | .restore _ _ => ⟨0xF00FFFFF, 0x60000000⟩
  | .drop _ => ⟨0xF0FFFFFF, 0x70000000⟩

/-- The eleven rows of the opcode table (30_encoding.md R78). -/
def opcodeRows : List OpcodeRow :=
  [⟨0xF0F10000, 0x10100000⟩, ⟨0xF0F10000, 0x10200000⟩, ⟨0xF0F10000, 0x10300000⟩, ⟨0xF0F10000, 0x10400000⟩,
   ⟨0xF0F10000, 0x10700000⟩, ⟨0xF0FFFFFF, 0x20000000⟩, ⟨0xF0FFFF00, 0x30000000⟩, ⟨0xF0FFFFFF, 0x40000000⟩,
   ⟨0xF00FFFFF, 0x50000000⟩, ⟨0xF00FFFFF, 0x60000000⟩, ⟨0xF0FFFFFF, 0x70000000⟩]

/-- What R73 asks of an INIT word beyond its row's mask: without a key (an IV) its length field is 0. -/
def initLengthsConsistent (cw : Word) : Bool := (initFields cw).wellFormed

end Sys2Proof
end

