-- ==== Sys2Proof/Machine/Bits.lean ====
section
/-!
DEFINITION. The notation of 00_scope.md R15 to R17: rotations, bytes of a word, the two byte orders, ROM indexing, and
multiplication in GF(2^8) (43_serpent_derived.md R140, 45_block_cipher.md R155).
-/

namespace Sys2Proof.Machine

/-- `rotl32(a, n)` for `0 < n < 32` (00_scope.md R16). -/
def rotl32 (a : Word) (n : Nat) : Word := (a <<< n) ||| (a >>> (32 - n))

/-- `rotl31(a, n)` for `0 < n < 31`, on a 31-bit value kept in a 32-bit register whose bit 31 is 0 (00_scope.md R16,
41_lfsr_fsm.md R110). -/
def rotl31 (a : Word) (n : Nat) : Word := ((a <<< n) ||| (a >>> (31 - n))) &&& 0x7FFFFFFF

/-- `byte_k(w)`, `byte_0` the most significant byte (00_scope.md R15). -/
def byteOf (w : Word) (k : Nat) : Byte := w.extractLsb' (24 - 8 * k) 8

/-- `be32`: the first byte is the most significant (00_scope.md R17). -/
def be32 (b0 b1 b2 b3 : Byte) : Word := b0 ++ b1 ++ b2 ++ b3

/-- `le32`: the first byte is the least significant (00_scope.md R17). -/
def le32 (b0 b1 b2 b3 : Byte) : Word := b3 ++ b2 ++ b1 ++ b0

/-- `to_be32` (00_scope.md R17). -/
def toBe32 (w : Word) : List Byte := [byteOf w 0, byteOf w 1, byteOf w 2, byteOf w 3]

/-- `to_le32` (00_scope.md R17). -/
def toLe32 (w : Word) : List Byte := [byteOf w 3, byteOf w 2, byteOf w 1, byteOf w 0]

/-- Byte `i` of a key, an IV or a block. The rules index within the length only; beyond it the model answers 0 (log 18). -/
def byteAt (bs : List Byte) (i : Nat) : Byte := bs.getD i 0

/-- Word `i` of a list of words; the rules index within its length only (log 18). -/
def wordAt (ws : List Word) (i : Nat) : Word := ws.getD i 0

/-- Word-wise XOR of four words. -/
def quadXor (x y : Vector Word 4) : Vector Word 4 := #v[x[0] ^^^ y[0], x[1] ^^^ y[1], x[2] ^^^ y[2], x[3] ^^^ y[3]]

/-- `ROM[b]` of a byte table (00_scope.md R17). -/
def byteEntry (t : ByteTable) (b : Byte) : Byte := t[b.toNat / 16][b.toNat % 16]

/-- `ROM[b]` of a word table (00_scope.md R17). -/
def wordEntry (t : WordTable) (b : Byte) : Word := t[b.toNat / 8][b.toNat % 8]

/-- Multiplication by `x` in GF(2^8) modulo `x^8` plus the polynomial `low`. -/
def gfDouble (low : Byte) (a : Byte) : Byte := if a.getLsbD 7 then (a <<< 1) ^^^ low else a <<< 1

/-- The product of `a` with the polynomial that the low `n` bits of `b` stand for, in GF(2^8). -/
def gfMulBits (low : Byte) : Nat → Byte → Byte → Byte
  | 0, _, _ => 0
  | n + 1, a, b => (if b.getLsbD 0 then a else 0) ^^^ gfMulBits low n (gfDouble low a) (b >>> 1)

/-- Multiplication in GF(2^8) defined by `x^8` plus the polynomial `low`. -/
def gfMul (low a b : Byte) : Byte := gfMulBits low 8 a b

/-- Powers in GF(2^8). -/
def gfPow (low a : Byte) : Nat → Byte
  | 0 => 1
  | n + 1 => gfMul low a (gfPow low a n)

end Sys2Proof.Machine
end

