-- ==== Sys2Proof/Machine/Rom.lean ====
section
/-!
DEFINITION. The reference contents of the ROM tables (48_reference_roms.md R166 to R176; 43_serpent_derived.md R138;
45_block_cipher.md R155) and the reference configuration (00_scope.md R13). The values are the spec's, which marks
every one of them as general knowledge (93_implementation_defined.md G2 to G9; log 15). The table formulas of R140,
R155 and R175 stand at the end, as checks that a ROM may or may not meet.
-/

namespace Sys2Proof.Machine

/-- `LF_S0` (48_reference_roms.md R167). -/
def refLfS0 : ByteTable := #v[
  #v[0x3E, 0x72, 0x5B, 0x47, 0xCA, 0xE0, 0x00, 0x33, 0x04, 0xD1, 0x54, 0x98, 0x09, 0xB9, 0x6D, 0xCB],
  #v[0x7B, 0x1B, 0xF9, 0x32, 0xAF, 0x9D, 0x6A, 0xA5, 0xB8, 0x2D, 0xFC, 0x1D, 0x08, 0x53, 0x03, 0x90],
  #v[0x4D, 0x4E, 0x84, 0x99, 0xE4, 0xCE, 0xD9, 0x91, 0xDD, 0xB6, 0x85, 0x48, 0x8B, 0x29, 0x6E, 0xAC],
  #v[0xCD, 0xC1, 0xF8, 0x1E, 0x73, 0x43, 0x69, 0xC6, 0xB5, 0xBD, 0xFD, 0x39, 0x63, 0x20, 0xD4, 0x38],
  #v[0x76, 0x7D, 0xB2, 0xA7, 0xCF, 0xED, 0x57, 0xC5, 0xF3, 0x2C, 0xBB, 0x14, 0x21, 0x06, 0x55, 0x9B],
  #v[0xE3, 0xEF, 0x5E, 0x31, 0x4F, 0x7F, 0x5A, 0xA4, 0x0D, 0x82, 0x51, 0x49, 0x5F, 0xBA, 0x58, 0x1C],
  #v[0x4A, 0x16, 0xD5, 0x17, 0xA8, 0x92, 0x24, 0x1F, 0x8C, 0xFF, 0xD8, 0xAE, 0x2E, 0x01, 0xD3, 0xAD],
  #v[0x3B, 0x4B, 0xDA, 0x46, 0xEB, 0xC9, 0xDE, 0x9A, 0x8F, 0x87, 0xD7, 0x3A, 0x80, 0x6F, 0x2F, 0xC8],
  #v[0xB1, 0xB4, 0x37, 0xF7, 0x0A, 0x22, 0x13, 0x28, 0x7C, 0xCC, 0x3C, 0x89, 0xC7, 0xC3, 0x96, 0x56],
  #v[0x07, 0xBF, 0x7E, 0xF0, 0x0B, 0x2B, 0x97, 0x52, 0x35, 0x41, 0x79, 0x61, 0xA6, 0x4C, 0x10, 0xFE],
  #v[0xBC, 0x26, 0x95, 0x88, 0x8A, 0xB0, 0xA3, 0xFB, 0xC0, 0x18, 0x94, 0xF2, 0xE1, 0xE5, 0xE9, 0x5D],
  #v[0xD0, 0xDC, 0x11, 0x66, 0x64, 0x5C, 0xEC, 0x59, 0x42, 0x75, 0x12, 0xF5, 0x74, 0x9C, 0xAA, 0x23],
  #v[0x0E, 0x86, 0xAB, 0xBE, 0x2A, 0x02, 0xE7, 0x67, 0xE6, 0x44, 0xA2, 0x6C, 0xC2, 0x93, 0x9F, 0xF1],
  #v[0xF6, 0xFA, 0x36, 0xD2, 0x50, 0x68, 0x9E, 0x62, 0x71, 0x15, 0x3D, 0xD6, 0x40, 0xC4, 0xE2, 0x0F],
  #v[0x8E, 0x83, 0x77, 0x6B, 0x25, 0x05, 0x3F, 0x0C, 0x30, 0xEA, 0x70, 0xB7, 0xA1, 0xE8, 0xA9, 0x65],
  #v[0x8D, 0x27, 0x1A, 0xDB, 0x81, 0xB3, 0xA0, 0xF4, 0x45, 0x7A, 0x19, 0xDF, 0xEE, 0x78, 0x34, 0x60]]

/-- `LF_S1` (48_reference_roms.md R168). -/
def refLfS1 : ByteTable := #v[
  #v[0x55, 0xC2, 0x63, 0x71, 0x3B, 0xC8, 0x47, 0x86, 0x9F, 0x3C, 0xDA, 0x5B, 0x29, 0xAA, 0xFD, 0x77],
  #v[0x8C, 0xC5, 0x94, 0x0C, 0xA6, 0x1A, 0x13, 0x00, 0xE3, 0xA8, 0x16, 0x72, 0x40, 0xF9, 0xF8, 0x42],
  #v[0x44, 0x26, 0x68, 0x96, 0x81, 0xD9, 0x45, 0x3E, 0x10, 0x76, 0xC6, 0xA7, 0x8B, 0x39, 0x43, 0xE1],
  #v[0x3A, 0xB5, 0x56, 0x2A, 0xC0, 0x6D, 0xB3, 0x05, 0x22, 0x66, 0xBF, 0xDC, 0x0B, 0xFA, 0x62, 0x48],
  #v[0xDD, 0x20, 0x11, 0x06, 0x36, 0xC9, 0xC1, 0xCF, 0xF6, 0x27, 0x52, 0xBB, 0x69, 0xF5, 0xD4, 0x87],
  #v[0x7F, 0x84, 0x4C, 0xD2, 0x9C, 0x57, 0xA4, 0xBC, 0x4F, 0x9A, 0xDF, 0xFE, 0xD6, 0x8D, 0x7A, 0xEB],
  #v[0x2B, 0x53, 0xD8, 0x5C, 0xA1, 0x14, 0x17, 0xFB, 0x23, 0xD5, 0x7D, 0x30, 0x67, 0x73, 0x08, 0x09],
  #v[0xEE, 0xB7, 0x70, 0x3F, 0x61, 0xB2, 0x19, 0x8E, 0x4E, 0xE5, 0x4B, 0x93, 0x8F, 0x5D, 0xDB, 0xA9],
  #v[0xAD, 0xF1, 0xAE, 0x2E, 0xCB, 0x0D, 0xFC, 0xF4, 0x2D, 0x46, 0x6E, 0x1D, 0x97, 0xE8, 0xD1, 0xE9],
  #v[0x4D, 0x37, 0xA5, 0x75, 0x5E, 0x83, 0x9E, 0xAB, 0x82, 0x9D, 0xB9, 0x1C, 0xE0, 0xCD, 0x49, 0x89],
  #v[0x01, 0xB6, 0xBD, 0x58, 0x24, 0xA2, 0x5F, 0x38, 0x78, 0x99, 0x15, 0x90, 0x50, 0xB8, 0x95, 0xE4],
  #v[0xD0, 0x91, 0xC7, 0xCE, 0xED, 0x0F, 0xB4, 0x6F, 0xA0, 0xCC, 0xF0, 0x02, 0x4A, 0x79, 0xC3, 0xDE],
  #v[0xA3, 0xEF, 0xEA, 0x51, 0xE6, 0x6B, 0x18, 0xEC, 0x1B, 0x2C, 0x80, 0xF7, 0x74, 0xE7, 0xFF, 0x21],
  #v[0x5A, 0x6A, 0x54, 0x1E, 0x41, 0x31, 0x92, 0x35, 0xC4, 0x33, 0x07, 0x0A, 0xBA, 0x7E, 0x0E, 0x34],
  #v[0x88, 0xB1, 0x98, 0x7C, 0xF3, 0x3D, 0x60, 0x6C, 0x7B, 0xCA, 0xD3, 0x1F, 0x32, 0x65, 0x04, 0x28],
  #v[0x64, 0xBE, 0x85, 0x9B, 0x2F, 0x59, 0x8A, 0xD7, 0xB0, 0x25, 0xAC, 0xAF, 0x12, 0x03, 0xE2, 0xF2]]

/-- `LF_D128` (48_reference_roms.md R169). -/
def refLfD128 : Vector (BitVec 15) 16 := #v[
  0x44D7, 0x26BC, 0x626B, 0x135E, 0x5789, 0x35E2, 0x7135, 0x09AF,
  0x4D78, 0x2F13, 0x6BC4, 0x1AF1, 0x5E26, 0x3C4D, 0x789A, 0x47AC]

/-- `LF_D256` (48_reference_roms.md R169). -/
def refLfD256 : Vector (BitVec 7) 16 := #v[
  0x22, 0x2F, 0x24, 0x2A, 0x6D, 0x40, 0x40, 0x40, 0x40, 0x40, 0x40, 0x40, 0x40, 0x52, 0x10, 0x30]

/-- `CTR_A` (48_reference_roms.md R170). -/
def refCtrA : Vector Word 8 := #v[
  0x4D34D34D, 0xD34D34D3, 0x34D34D34, 0x4D34D34D, 0xD34D34D3, 0x34D34D34, 0x4D34D34D, 0xD34D34D3]

/-- `SRP_SB[0..7]` (43_serpent_derived.md R138, 48_reference_roms.md R171). -/
def refSrpSb : Vector (Vector (BitVec 4) 16) 8 := #v[
  #v[3, 8, 15, 1, 10, 6, 5, 11, 14, 13, 4, 2, 7, 0, 9, 12],
  #v[15, 12, 2, 7, 9, 0, 5, 10, 1, 11, 14, 8, 6, 13, 3, 4],
  #v[8, 6, 7, 9, 3, 12, 10, 15, 13, 1, 14, 4, 0, 11, 5, 2],
  #v[0, 15, 11, 8, 12, 9, 6, 3, 13, 1, 2, 4, 10, 7, 5, 14],
  #v[1, 15, 8, 3, 12, 0, 11, 6, 2, 5, 4, 10, 9, 14, 7, 13],
  #v[15, 5, 2, 11, 4, 10, 9, 12, 0, 3, 14, 8, 13, 6, 7, 1],
  #v[7, 2, 12, 5, 8, 4, 6, 11, 14, 9, 1, 15, 13, 3, 10, 0],
  #v[1, 13, 15, 0, 14, 8, 2, 11, 7, 4, 12, 10, 9, 3, 5, 6]]

/-- `SRP_MULA` (48_reference_roms.md R172). -/
def refSrpMula : WordTable := #v[
  #v[0x00000000, 0xE19FCF13, 0x6B973726, 0x8A08F835, 0xD6876E4C, 0x3718A15F, 0xBD10596A, 0x5C8F9679],
  #v[0x05A7DC98, 0xE438138B, 0x6E30EBBE, 0x8FAF24AD, 0xD320B2D4, 0x32BF7DC7, 0xB8B785F2, 0x59284AE1],
  #v[0x0AE71199, 0xEB78DE8A, 0x617026BF, 0x80EFE9AC, 0xDC607FD5, 0x3DFFB0C6, 0xB7F748F3, 0x566887E0],
  #v[0x0F40CD01, 0xEEDF0212, 0x64D7FA27, 0x85483534, 0xD9C7A34D, 0x38586C5E, 0xB250946B, 0x53CF5B78],
  #v[0x1467229B, 0xF5F8ED88, 0x7FF015BD, 0x9E6FDAAE, 0xC2E04CD7, 0x237F83C4, 0xA9777BF1, 0x48E8B4E2],
  #v[0x11C0FE03, 0xF05F3110, 0x7A57C925, 0x9BC80636, 0xC747904F, 0x26D85F5C, 0xACD0A769, 0x4D4F687A],
  #v[0x1E803302, 0xFF1FFC11, 0x75170424, 0x9488CB37, 0xC8075D4E, 0x2998925D, 0xA3906A68, 0x420FA57B],
  #v[0x1B27EF9A, 0xFAB82089, 0x70B0D8BC, 0x912F17AF, 0xCDA081D6, 0x2C3F4EC5, 0xA637B6F0, 0x47A879E3],
  #v[0x28CE449F, 0xC9518B8C, 0x435973B9, 0xA2C6BCAA, 0xFE492AD3, 0x1FD6E5C0, 0x95DE1DF5, 0x7441D2E6],
  #v[0x2D699807, 0xCCF65714, 0x46FEAF21, 0xA7616032, 0xFBEEF64B, 0x1A713958, 0x9079C16D, 0x71E60E7E],
  #v[0x22295506, 0xC3B69A15, 0x49BE6220, 0xA821AD33, 0xF4AE3B4A, 0x1531F459, 0x9F390C6C, 0x7EA6C37F],
  #v[0x278E899E, 0xC611468D, 0x4C19BEB8, 0xAD8671AB, 0xF109E7D2, 0x109628C1, 0x9A9ED0F4, 0x7B011FE7],
  #v[0x3CA96604, 0xDD36A917, 0x573E5122, 0xB6A19E31, 0xEA2E0848, 0x0BB1C75B, 0x81B93F6E, 0x6026F07D],
  #v[0x390EBA9C, 0xD891758F, 0x52998DBA, 0xB30642A9, 0xEF89D4D0, 0x0E161BC3, 0x841EE3F6, 0x65812CE5],
  #v[0x364E779D, 0xD7D1B88E, 0x5DD940BB, 0xBC468FA8, 0xE0C919D1, 0x0156D6C2, 0x8B5E2EF7, 0x6AC1E1E4],
  #v[0x33E9AB05, 0xD2766416, 0x587E9C23, 0xB9E15330, 0xE56EC549, 0x04F10A5A, 0x8EF9F26F, 0x6F663D7C],
  #v[0x50358897, 0xB1AA4784, 0x3BA2BFB1, 0xDA3D70A2, 0x86B2E6DB, 0x672D29C8, 0xED25D1FD, 0x0CBA1EEE],
  #v[0x5592540F, 0xB40D9B1C, 0x3E056329, 0xDF9AAC3A, 0x83153A43, 0x628AF550, 0xE8820D65, 0x091DC276],
  #v[0x5AD2990E, 0xBB4D561D, 0x3145AE28, 0xD0DA613B, 0x8C55F742, 0x6DCA3851, 0xE7C2C064, 0x065D0F77],
  #v[0x5F754596, 0xBEEA8A85, 0x34E272B0, 0xD57DBDA3, 0x89F22BDA, 0x686DE4C9, 0xE2651CFC, 0x03FAD3EF],
  #v[0x4452AA0C, 0xA5CD651F, 0x2FC59D2A, 0xCE5A5239, 0x92D5C440, 0x734A0B53, 0xF942F366, 0x18DD3C75],
  #v[0x41F57694, 0xA06AB987, 0x2A6241B2, 0xCBFD8EA1, 0x977218D8, 0x76EDD7CB, 0xFCE52FFE, 0x1D7AE0ED],
  #v[0x4EB5BB95, 0xAF2A7486, 0x25228CB3, 0xC4BD43A0, 0x9832D5D9, 0x79AD1ACA, 0xF3A5E2FF, 0x123A2DEC],
  #v[0x4B12670D, 0xAA8DA81E, 0x2085502B, 0xC11A9F38, 0x9D950941, 0x7C0AC652, 0xF6023E67, 0x179DF174],
  #v[0x78FBCC08, 0x9964031B, 0x136CFB2E, 0xF2F3343D, 0xAE7CA244, 0x4FE36D57, 0xC5EB9562, 0x24745A71],
  #v[0x7D5C1090, 0x9CC3DF83, 0x16CB27B6, 0xF754E8A5, 0xABDB7EDC, 0x4A44B1CF, 0xC04C49FA, 0x21D386E9],
  #v[0x721CDD91, 0x93831282, 0x198BEAB7, 0xF81425A4, 0xA49BB3DD, 0x45047CCE, 0xCF0C84FB, 0x2E934BE8],
  #v[0x77BB0109, 0x9624CE1A, 0x1C2C362F, 0xFDB3F93C, 0xA13C6F45, 0x40A3A056, 0xCAAB5863, 0x2B349770],
  #v[0x6C9CEE93, 0x8D032180, 0x070BD9B5, 0xE69416A6, 0xBA1B80DF, 0x5B844FCC, 0xD18CB7F9, 0x301378EA],
  #v[0x693B320B, 0x88A4FD18, 0x02AC052D, 0xE333CA3E, 0xBFBC5C47, 0x5E239354, 0xD42B6B61, 0x35B4A472],
  #v[0x667BFF0A, 0x87E43019, 0x0DECC82C, 0xEC73073F, 0xB0FC9146, 0x51635E55, 0xDB6BA660, 0x3AF46973],
  #v[0x63DC2392, 0x8243EC81, 0x084B14B4, 0xE9D4DBA7, 0xB55B4DDE, 0x54C482CD, 0xDECC7AF8, 0x3F53B5EB]]

/-- `SRP_DIVA` (48_reference_roms.md R173). -/
def refSrpDiva : WordTable := #v[
  #v[0x00000000, 0x180F40CD, 0x301E8033, 0x2811C0FE, 0x603CA966, 0x7833E9AB, 0x50222955, 0x482D6998],
  #v[0xC078FBCC, 0xD877BB01, 0xF0667BFF, 0xE8693B32, 0xA04452AA, 0xB84B1267, 0x905AD299, 0x88559254],
  #v[0x29F05F31, 0x31FF1FFC, 0x19EEDF02, 0x01E19FCF, 0x49CCF657, 0x51C3B69A, 0x79D27664, 0x61DD36A9],
  #v[0xE988A4FD, 0xF187E430, 0xD99624CE, 0xC1996403, 0x89B40D9B, 0x91BB4D56, 0xB9AA8DA8, 0xA1A5CD65],
  #v[0x5249BE62, 0x4A46FEAF, 0x62573E51, 0x7A587E9C, 0x32751704, 0x2A7A57C9, 0x026B9737, 0x1A64D7FA],
  #v[0x923145AE, 0x8A3E0563, 0xA22FC59D, 0xBA208550, 0xF20DECC8, 0xEA02AC05, 0xC2136CFB, 0xDA1C2C36],
  #v[0x7BB9E153, 0x63B6A19E, 0x4BA76160, 0x53A821AD, 0x1B854835, 0x038A08F8, 0x2B9BC806, 0x339488CB],
  #v[0xBBC11A9F, 0xA3CE5A52, 0x8BDF9AAC, 0x93D0DA61, 0xDBFDB3F9, 0xC3F2F334, 0xEBE333CA, 0xF3EC7307],
  #v[0xA492D5C4, 0xBC9D9509, 0x948C55F7, 0x8C83153A, 0xC4AE7CA2, 0xDCA13C6F, 0xF4B0FC91, 0xECBFBC5C],
  #v[0x64EA2E08, 0x7CE56EC5, 0x54F4AE3B, 0x4CFBEEF6, 0x04D6876E, 0x1CD9C7A3, 0x34C8075D, 0x2CC74790],
  #v[0x8D628AF5, 0x956DCA38, 0xBD7C0AC6, 0xA5734A0B, 0xED5E2393, 0xF551635E, 0xDD40A3A0, 0xC54FE36D],
  #v[0x4D1A7139, 0x551531F4, 0x7D04F10A, 0x650BB1C7, 0x2D26D85F, 0x35299892, 0x1D38586C, 0x053718A1],
  #v[0xF6DB6BA6, 0xEED42B6B, 0xC6C5EB95, 0xDECAAB58, 0x96E7C2C0, 0x8EE8820D, 0xA6F942F3, 0xBEF6023E],
  #v[0x36A3906A, 0x2EACD0A7, 0x06BD1059, 0x1EB25094, 0x569F390C, 0x4E9079C1, 0x6681B93F, 0x7E8EF9F2],
  #v[0xDF2B3497, 0xC724745A, 0xEF35B4A4, 0xF73AF469, 0xBF179DF1, 0xA718DD3C, 0x8F091DC2, 0x97065D0F],
  #v[0x1F53CF5B, 0x075C8F96, 0x2F4D4F68, 0x37420FA5, 0x7F6F663D, 0x676026F0, 0x4F71E60E, 0x577EA6C3],
  #v[0xE18D0321, 0xF98243EC, 0xD1938312, 0xC99CC3DF, 0x81B1AA47, 0x99BEEA8A, 0xB1AF2A74, 0xA9A06AB9],
  #v[0x21F5F8ED, 0x39FAB820, 0x11EB78DE, 0x09E43813, 0x41C9518B, 0x59C61146, 0x71D7D1B8, 0x69D89175],
  #v[0xC87D5C10, 0xD0721CDD, 0xF863DC23, 0xE06C9CEE, 0xA841F576, 0xB04EB5BB, 0x985F7545, 0x80503588],
  #v[0x0805A7DC, 0x100AE711, 0x381B27EF, 0x20146722, 0x68390EBA, 0x70364E77, 0x58278E89, 0x4028CE44],
  #v[0xB3C4BD43, 0xABCBFD8E, 0x83DA3D70, 0x9BD57DBD, 0xD3F81425, 0xCBF754E8, 0xE3E69416, 0xFBE9D4DB],
  #v[0x73BC468F, 0x6BB30642, 0x43A2C6BC, 0x5BAD8671, 0x1380EFE9, 0x0B8FAF24, 0x239E6FDA, 0x3B912F17],
  #v[0x9A34E272, 0x823BA2BF, 0xAA2A6241, 0xB225228C, 0xFA084B14, 0xE2070BD9, 0xCA16CB27, 0xD2198BEA],
  #v[0x5A4C19BE, 0x42435973, 0x6A52998D, 0x725DD940, 0x3A70B0D8, 0x227FF015, 0x0A6E30EB, 0x12617026],
  #v[0x451FD6E5, 0x5D109628, 0x750156D6, 0x6D0E161B, 0x25237F83, 0x3D2C3F4E, 0x153DFFB0, 0x0D32BF7D],
  #v[0x85672D29, 0x9D686DE4, 0xB579AD1A, 0xAD76EDD7, 0xE55B844F, 0xFD54C482, 0xD545047C, 0xCD4A44B1],
  #v[0x6CEF89D4, 0x74E0C919, 0x5CF109E7, 0x44FE492A, 0x0CD320B2, 0x14DC607F, 0x3CCDA081, 0x24C2E04C],
  #v[0xAC977218, 0xB49832D5, 0x9C89F22B, 0x8486B2E6, 0xCCABDB7E, 0xD4A49BB3, 0xFCB55B4D, 0xE4BA1B80],
  #v[0x17566887, 0x0F59284A, 0x2748E8B4, 0x3F47A879, 0x776AC1E1, 0x6F65812C, 0x477441D2, 0x5F7B011F],
  #v[0xD72E934B, 0xCF21D386, 0xE7301378, 0xFF3F53B5, 0xB7123A2D, 0xAF1D7AE0, 0x870CBA1E, 0x9F03FAD3],
  #v[0x3EA637B6, 0x26A9777B, 0x0EB8B785, 0x16B7F748, 0x5E9A9ED0, 0x4695DE1D, 0x6E841EE3, 0x768B5E2E],
  #v[0xFEDECC7A, 0xE6D18CB7, 0xCEC04C49, 0xD6CF0C84, 0x9EE2651C, 0x86ED25D1, 0xAEFCE52F, 0xB6F3A5E2]]

/-- `BLK_S` (48_reference_roms.md R174). -/
def refBlkS : ByteTable := #v[
  #v[0xBA, 0x54, 0x2F, 0x74, 0x53, 0xD3, 0xD2, 0x4D, 0x50, 0xAC, 0x8D, 0xBF, 0x70, 0x52, 0x9A, 0x4C],
  #v[0xEA, 0xD5, 0x97, 0xD1, 0x33, 0x51, 0x5B, 0xA6, 0xDE, 0x48, 0xA8, 0x99, 0xDB, 0x32, 0xB7, 0xFC],
  #v[0xE3, 0x9E, 0x91, 0x9B, 0xE2, 0xBB, 0x41, 0x6E, 0xA5, 0xCB, 0x6B, 0x95, 0xA1, 0xF3, 0xB1, 0x02],
  #v[0xCC, 0xC4, 0x1D, 0x14, 0xC3, 0x63, 0xDA, 0x5D, 0x5F, 0xDC, 0x7D, 0xCD, 0x7F, 0x5A, 0x6C, 0x5C],
  #v[0xF7, 0x26, 0xFF, 0xED, 0xE8, 0x9D, 0x6F, 0x8E, 0x19, 0xA0, 0xF0, 0x89, 0x0F, 0x07, 0xAF, 0xFB],
  #v[0x08, 0x15, 0x0D, 0x04, 0x01, 0x64, 0xDF, 0x76, 0x79, 0xDD, 0x3D, 0x16, 0x3F, 0x37, 0x6D, 0x38],
  #v[0xB9, 0x73, 0xE9, 0x35, 0x55, 0x71, 0x7B, 0x8C, 0x72, 0x88, 0xF6, 0x2A, 0x3E, 0x5E, 0x27, 0x46],
  #v[0x0C, 0x65, 0x68, 0x61, 0x03, 0xC1, 0x57, 0xD6, 0xD9, 0x58, 0xD8, 0x66, 0xD7, 0x3A, 0xC8, 0x3C],
  #v[0xFA, 0x96, 0xA7, 0x98, 0xEC, 0xB8, 0xC7, 0xAE, 0x69, 0x4B, 0xAB, 0xA9, 0x67, 0x0A, 0x47, 0xF2],
  #v[0xB5, 0x22, 0xE5, 0xEE, 0xBE, 0x2B, 0x81, 0x12, 0x83, 0x1B, 0x0E, 0x23, 0xF5, 0x45, 0x21, 0xCE],
  #v[0x49, 0x2C, 0xF9, 0xE6, 0xB6, 0x28, 0x17, 0x82, 0x1A, 0x8B, 0xFE, 0x8A, 0x09, 0xC9, 0x87, 0x4E],
  #v[0xE1, 0x2E, 0xE4, 0xE0, 0xEB, 0x90, 0xA4, 0x1E, 0x85, 0x60, 0x00, 0x25, 0xF4, 0xF1, 0x94, 0x0B],
  #v[0xE7, 0x75, 0xEF, 0x34, 0x31, 0xD4, 0xD0, 0x86, 0x7E, 0xAD, 0xFD, 0x29, 0x30, 0x3B, 0x9F, 0xF8],
  #v[0xC6, 0x13, 0x06, 0x05, 0xC5, 0x11, 0x77, 0x7C, 0x7A, 0x78, 0x36, 0x1C, 0x39, 0x59, 0x18, 0x56],
  #v[0xB3, 0xB0, 0x24, 0x20, 0xB2, 0x92, 0xA3, 0xC0, 0x44, 0x62, 0x10, 0xB4, 0x84, 0x43, 0x93, 0xC2],
  #v[0x4A, 0xBD, 0x8F, 0x2D, 0xBC, 0x9C, 0x6A, 0x40, 0xCF, 0xA2, 0x80, 0x4F, 0x1F, 0xCA, 0xAA, 0x42]]

/-- `BLK_T0` (48_reference_roms.md R175). -/
def refBlkT0 : WordTable := #v[
  #v[0xBA69D2BB, 0x54A84DE5, 0x2F5EBCE2, 0x74E8CD25, 0x53A651F7, 0xD3BB6BD0, 0xD2B96FD6, 0x4D9A29B3],
  #v[0x50A05DFD, 0xAC458ACF, 0x8D070E09, 0xBF63C6A5, 0x70E0DD3D, 0x52A455F1, 0x9A29527B, 0x4C982DB5],
  #v[0xEAC98F46, 0xD5B773C4, 0x97336655, 0xD1BF63DC, 0x3366CCAA, 0x51A259FB, 0x5BB671C7, 0xA651A2F3],
  #v[0xDEA15FFE, 0x48903DAD, 0xA84D9AD7, 0x992F5E71, 0xDBAB4BE0, 0x3264C8AC, 0xB773E695, 0xFCE5D732],
  #v[0xE3DBAB70, 0x9E214263, 0x913F7E41, 0x9B2B567D, 0xE2D9AF76, 0xBB6BD6BD, 0x4182199B, 0x6EDCA579],
  #v[0xA557AEF9, 0xCB8B0B80, 0x6BD6B167, 0x95376E59, 0xA15FBEE1, 0xF3FBEB10, 0xB17FFE81, 0x0204080C],
  #v[0xCC851792, 0xC49537A2, 0x1D3A744E, 0x14285078, 0xC39B2BB0, 0x63C69157, 0xDAA94FE6, 0x5DBA69D3],
  #v[0x5FBE61DF, 0xDCA557F2, 0x7DFAE913, 0xCD871394, 0x7FFEE11F, 0x5AB475C1, 0x6CD8AD75, 0x5CB86DD5],
  #v[0xF7F3FB08, 0x264C98D4, 0xFFE3DB38, 0xEDC79354, 0xE8CD874A, 0x9D274E69, 0x6FDEA17F, 0x8E010203],
  #v[0x19326456, 0xA05DBAE7, 0xF0FDE71A, 0x890F1E11, 0x0F1E3C22, 0x070E1C12, 0xAF4386C5, 0xFBEBCB20],
  #v[0x08102030, 0x152A547E, 0x0D1A342E, 0x04081018, 0x01020406, 0x64C88D45, 0xDFA35BF8, 0x76ECC529],
  #v[0x79F2F90B, 0xDDA753F4, 0x3D7AF48E, 0x162C5874, 0x3F7EFC82, 0x376EDCB2, 0x6DDAA973, 0x3870E090],
  #v[0xB96FDEB1, 0x73E6D137, 0xE9CF834C, 0x356AD4BE, 0x55AA49E3, 0x71E2D93B, 0x7BF6F107, 0x8C050A0F],
  #v[0x72E4D531, 0x880D1A17, 0xF6F1FF0E, 0x2A54A8FC, 0x3E7CF884, 0x5EBC65D9, 0x274E9CD2, 0x468C0589],
  #v[0x0C183028, 0x65CA8943, 0x68D0BD6D, 0x61C2995B, 0x03060C0A, 0xC19F23BC, 0x57AE41EF, 0xD6B17FCE],
  #v[0xD9AF43EC, 0x58B07DCD, 0xD8AD47EA, 0x66CC8549, 0xD7B37BC8, 0x3A74E89C, 0xC88D078A, 0x3C78F088],
  #v[0xFAE9CF26, 0x96316253, 0xA753A6F5, 0x982D5A77, 0xECC59752, 0xB86DDAB7, 0xC7933BA8, 0xAE4182C3],
  #v[0x69D2B96B, 0x4B9631A7, 0xAB4B96DD, 0xA94F9ED1, 0x67CE814F, 0x0A14283C, 0x478E018F, 0xF2F9EF16],
  #v[0xB577EE99, 0x224488CC, 0xE5D7B364, 0xEEC19F5E, 0xBE61C2A3, 0x2B56ACFA, 0x811F3E21, 0x1224486C],
  #v[0x831B362D, 0x1B366C5A, 0x0E1C3824, 0x23468CCA, 0xF5F7F304, 0x458A0983, 0x214284C6, 0xCE811F9E],
  #v[0x499239AB, 0x2C58B0E8, 0xF9EFC32C, 0xE6D1BF6E, 0xB671E293, 0x2850A0F0, 0x172E5C72, 0x8219322B],
  #v[0x1A34685C, 0x8B0B161D, 0xFEE1DF3E, 0x8A09121B, 0x09122436, 0xC98F038C, 0x87132635, 0x4E9C25B9],
  #v[0xE1DFA37C, 0x2E5CB8E4, 0xE4D5B762, 0xE0DDA77A, 0xEBCB8B40, 0x903D7A47, 0xA455AAFF, 0x1E3C7844],
  #v[0x85172E39, 0x60C09D5D, 0x00000000, 0x254A94DE, 0xF4F5F702, 0xF1FFE31C, 0x94356A5F, 0x0B162C3A],
  #v[0xE7D3BB68, 0x75EAC923, 0xEFC39B58, 0x3468D0B8, 0x3162C4A6, 0xD4B577C2, 0xD0BD67DA, 0x86112233],
  #v[0x7EFCE519, 0xAD478EC9, 0xFDE7D334, 0x2952A4F6, 0x3060C0A0, 0x3B76EC9A, 0x9F234665, 0xF8EDC72A],
  #v[0xC6913FAE, 0x13264C6A, 0x060C1814, 0x050A141E, 0xC59733A4, 0x11224466, 0x77EEC12F, 0x7CF8ED15],
  #v[0x7AF4F501, 0x78F0FD0D, 0x366CD8B4, 0x1C387048, 0x3972E496, 0x59B279CB, 0x18306050, 0x56AC45E9],
  #v[0xB37BF68D, 0xB07DFA87, 0x244890D8, 0x204080C0, 0xB279F28B, 0x9239724B, 0xA35BB6ED, 0xC09D27BA],
  #v[0x44880D85, 0x62C49551, 0x10204060, 0xB475EA9F, 0x84152A3F, 0x43861197, 0x933B764D, 0xC2992FB6],
  #v[0x4A9435A1, 0xBD67CEA9, 0x8F030605, 0x2D5AB4EE, 0xBC65CAAF, 0x9C254A6F, 0x6AD4B561, 0x40801D9D],
  #v[0xCF831B98, 0xA259B2EB, 0x801D3A27, 0x4F9E21BF, 0x1F3E7C42, 0xCA890F86, 0xAA4992DB, 0x42841591]]

/-- `BLK_T1`: the bytes of `BLK_T0` in the order that 48_reference_roms.md R175 gives. -/
def refBlkT1 : WordTable := #v[
  #v[0x69BABBD2, 0xA854E54D, 0x5E2FE2BC, 0xE87425CD, 0xA653F751, 0xBBD3D06B, 0xB9D2D66F, 0x9A4DB329],
  #v[0xA050FD5D, 0x45ACCF8A, 0x078D090E, 0x63BFA5C6, 0xE0703DDD, 0xA452F155, 0x299A7B52, 0x984CB52D],
  #v[0xC9EA468F, 0xB7D5C473, 0x33975566, 0xBFD1DC63, 0x6633AACC, 0xA251FB59, 0xB65BC771, 0x51A6F3A2],
  #v[0xA1DEFE5F, 0x9048AD3D, 0x4DA8D79A, 0x2F99715E, 0xABDBE04B, 0x6432ACC8, 0x73B795E6, 0xE5FC32D7],
  #v[0xDBE370AB, 0x219E6342, 0x3F91417E, 0x2B9B7D56, 0xD9E276AF, 0x6BBBBDD6, 0x82419B19, 0xDC6E79A5],
  #v[0x57A5F9AE, 0x8BCB800B, 0xD66B67B1, 0x3795596E, 0x5FA1E1BE, 0xFBF310EB, 0x7FB181FE, 0x04020C08],
  #v[0x85CC9217, 0x95C4A237, 0x3A1D4E74, 0x28147850, 0x9BC3B02B, 0xC6635791, 0xA9DAE64F, 0xBA5DD369],
  #v[0xBE5FDF61, 0xA5DCF257, 0xFA7D13E9, 0x87CD9413, 0xFE7F1FE1, 0xB45AC175, 0xD86C75AD, 0xB85CD56D],
  #v[0xF3F708FB, 0x4C26D498, 0xE3FF38DB, 0xC7ED5493, 0xCDE84A87, 0x279D694E, 0xDE6F7FA1, 0x018E0302],
  #v[0x32195664, 0x5DA0E7BA, 0xFDF01AE7, 0x0F89111E, 0x1E0F223C, 0x0E07121C, 0x43AFC586, 0xEBFB20CB],
  #v[0x10083020, 0x2A157E54, 0x1A0D2E34, 0x08041810, 0x02010604, 0xC864458D, 0xA3DFF85B, 0xEC7629C5],
  #v[0xF2790BF9, 0xA7DDF453, 0x7A3D8EF4, 0x2C167458, 0x7E3F82FC, 0x6E37B2DC, 0xDA6D73A9, 0x703890E0],
  #v[0x6FB9B1DE, 0xE67337D1, 0xCFE94C83, 0x6A35BED4, 0xAA55E349, 0xE2713BD9, 0xF67B07F1, 0x058C0F0A],
  #v[0xE47231D5, 0x0D88171A, 0xF1F60EFF, 0x542AFCA8, 0x7C3E84F8, 0xBC5ED965, 0x4E27D29C, 0x8C468905],
  #v[0x180C2830, 0xCA654389, 0xD0686DBD, 0xC2615B99, 0x06030A0C, 0x9FC1BC23, 0xAE57EF41, 0xB1D6CE7F],
  #v[0xAFD9EC43, 0xB058CD7D, 0xADD8EA47, 0xCC664985, 0xB3D7C87B, 0x743A9CE8, 0x8DC88A07, 0x783C88F0],
  #v[0xE9FA26CF, 0x31965362, 0x53A7F5A6, 0x2D98775A, 0xC5EC5297, 0x6DB8B7DA, 0x93C7A83B, 0x41AEC382],
  #v[0xD2696BB9, 0x964BA731, 0x4BABDD96, 0x4FA9D19E, 0xCE674F81, 0x140A3C28, 0x8E478F01, 0xF9F216EF],
  #v[0x77B599EE, 0x4422CC88, 0xD7E564B3, 0xC1EE5E9F, 0x61BEA3C2, 0x562BFAAC, 0x1F81213E, 0x24126C48],
  #v[0x1B832D36, 0x361B5A6C, 0x1C0E2438, 0x4623CA8C, 0xF7F504F3, 0x8A458309, 0x4221C684, 0x81CE9E1F],
  #v[0x9249AB39, 0x582CE8B0, 0xEFF92CC3, 0xD1E66EBF, 0x71B693E2, 0x5028F0A0, 0x2E17725C, 0x19822B32],
  #v[0x341A5C68, 0x0B8B1D16, 0xE1FE3EDF, 0x098A1B12, 0x12093624, 0x8FC98C03, 0x13873526, 0x9C4EB925],
  #v[0xDFE17CA3, 0x5C2EE4B8, 0xD5E462B7, 0xDDE07AA7, 0xCBEB408B, 0x3D90477A, 0x55A4FFAA, 0x3C1E4478],
  #v[0x1785392E, 0xC0605D9D, 0x00000000, 0x4A25DE94, 0xF5F402F7, 0xFFF11CE3, 0x35945F6A, 0x160B3A2C],
  #v[0xD3E768BB, 0xEA7523C9, 0xC3EF589B, 0x6834B8D0, 0x6231A6C4, 0xB5D4C277, 0xBDD0DA67, 0x11863322],
  #v[0xFC7E19E5, 0x47ADC98E, 0xE7FD34D3, 0x5229F6A4, 0x6030A0C0, 0x763B9AEC, 0x239F6546, 0xEDF82AC7],
  #v[0x91C6AE3F, 0x26136A4C, 0x0C061418, 0x0A051E14, 0x97C5A433, 0x22116644, 0xEE772FC1, 0xF87C15ED],
  #v[0xF47A01F5, 0xF0780DFD, 0x6C36B4D8, 0x381C4870, 0x723996E4, 0xB259CB79, 0x30185060, 0xAC56E945],
  #v[0x7BB38DF6, 0x7DB087FA, 0x4824D890, 0x4020C080, 0x79B28BF2, 0x39924B72, 0x5BA3EDB6, 0x9DC0BA27],
  #v[0x8844850D, 0xC4625195, 0x20106040, 0x75B49FEA, 0x15843F2A, 0x86439711, 0x3B934D76, 0x99C2B62F],
  #v[0x944AA135, 0x67BDA9CE, 0x038F0506, 0x5A2DEEB4, 0x65BCAFCA, 0x259C6F4A, 0xD46A61B5, 0x80409D1D],
  #v[0x83CF981B, 0x59A2EBB2, 0x1D80273A, 0x9E4FBF21, 0x3E1F427C, 0x89CA860F, 0x49AADB92, 0x84429115]]

/-- `BLK_T2`: the bytes of `BLK_T0` in the order that 48_reference_roms.md R175 gives. -/
def refBlkT2 : WordTable := #v[
  #v[0xD2BBBA69, 0x4DE554A8, 0xBCE22F5E, 0xCD2574E8, 0x51F753A6, 0x6BD0D3BB, 0x6FD6D2B9, 0x29B34D9A],
  #v[0x5DFD50A0, 0x8ACFAC45, 0x0E098D07, 0xC6A5BF63, 0xDD3D70E0, 0x55F152A4, 0x527B9A29, 0x2DB54C98],
  #v[0x8F46EAC9, 0x73C4D5B7, 0x66559733, 0x63DCD1BF, 0xCCAA3366, 0x59FB51A2, 0x71C75BB6, 0xA2F3A651],
  #v[0x5FFEDEA1, 0x3DAD4890, 0x9AD7A84D, 0x5E71992F, 0x4BE0DBAB, 0xC8AC3264, 0xE695B773, 0xD732FCE5],
  #v[0xAB70E3DB, 0x42639E21, 0x7E41913F, 0x567D9B2B, 0xAF76E2D9, 0xD6BDBB6B, 0x199B4182, 0xA5796EDC],
  #v[0xAEF9A557, 0x0B80CB8B, 0xB1676BD6, 0x6E599537, 0xBEE1A15F, 0xEB10F3FB, 0xFE81B17F, 0x080C0204],
  #v[0x1792CC85, 0x37A2C495, 0x744E1D3A, 0x50781428, 0x2BB0C39B, 0x915763C6, 0x4FE6DAA9, 0x69D35DBA],
  #v[0x61DF5FBE, 0x57F2DCA5, 0xE9137DFA, 0x1394CD87, 0xE11F7FFE, 0x75C15AB4, 0xAD756CD8, 0x6DD55CB8],
  #v[0xFB08F7F3, 0x98D4264C, 0xDB38FFE3, 0x9354EDC7, 0x874AE8CD, 0x4E699D27, 0xA17F6FDE, 0x02038E01],
  #v[0x64561932, 0xBAE7A05D, 0xE71AF0FD, 0x1E11890F, 0x3C220F1E, 0x1C12070E, 0x86C5AF43, 0xCB20FBEB],
  #v[0x20300810, 0x547E152A, 0x342E0D1A, 0x10180408, 0x04060102, 0x8D4564C8, 0x5BF8DFA3, 0xC52976EC],
  #v[0xF90B79F2, 0x53F4DDA7, 0xF48E3D7A, 0x5874162C, 0xFC823F7E, 0xDCB2376E, 0xA9736DDA, 0xE0903870],
  #v[0xDEB1B96F, 0xD13773E6, 0x834CE9CF, 0xD4BE356A, 0x49E355AA, 0xD93B71E2, 0xF1077BF6, 0x0A0F8C05],
  #v[0xD53172E4, 0x1A17880D, 0xFF0EF6F1, 0xA8FC2A54, 0xF8843E7C, 0x65D95EBC, 0x9CD2274E, 0x0589468C],
  #v[0x30280C18, 0x894365CA, 0xBD6D68D0, 0x995B61C2, 0x0C0A0306, 0x23BCC19F, 0x41EF57AE, 0x7FCED6B1],
  #v[0x43ECD9AF, 0x7DCD58B0, 0x47EAD8AD, 0x854966CC, 0x7BC8D7B3, 0xE89C3A74, 0x078AC88D, 0xF0883C78],
  #v[0xCF26FAE9, 0x62539631, 0xA6F5A753, 0x5A77982D, 0x9752ECC5, 0xDAB7B86D, 0x3BA8C793, 0x82C3AE41],
  #v[0xB96B69D2, 0x31A74B96, 0x96DDAB4B, 0x9ED1A94F, 0x814F67CE, 0x283C0A14, 0x018F478E, 0xEF16F2F9],
  #v[0xEE99B577, 0x88CC2244, 0xB364E5D7, 0x9F5EEEC1, 0xC2A3BE61, 0xACFA2B56, 0x3E21811F, 0x486C1224],
  #v[0x362D831B, 0x6C5A1B36, 0x38240E1C, 0x8CCA2346, 0xF304F5F7, 0x0983458A, 0x84C62142, 0x1F9ECE81],
  #v[0x39AB4992, 0xB0E82C58, 0xC32CF9EF, 0xBF6EE6D1, 0xE293B671, 0xA0F02850, 0x5C72172E, 0x322B8219],
  #v[0x685C1A34, 0x161D8B0B, 0xDF3EFEE1, 0x121B8A09, 0x24360912, 0x038CC98F, 0x26358713, 0x25B94E9C],
  #v[0xA37CE1DF, 0xB8E42E5C, 0xB762E4D5, 0xA77AE0DD, 0x8B40EBCB, 0x7A47903D, 0xAAFFA455, 0x78441E3C],
  #v[0x2E398517, 0x9D5D60C0, 0x00000000, 0x94DE254A, 0xF702F4F5, 0xE31CF1FF, 0x6A5F9435, 0x2C3A0B16],
  #v[0xBB68E7D3, 0xC92375EA, 0x9B58EFC3, 0xD0B83468, 0xC4A63162, 0x77C2D4B5, 0x67DAD0BD, 0x22338611],
  #v[0xE5197EFC, 0x8EC9AD47, 0xD334FDE7, 0xA4F62952, 0xC0A03060, 0xEC9A3B76, 0x46659F23, 0xC72AF8ED],
  #v[0x3FAEC691, 0x4C6A1326, 0x1814060C, 0x141E050A, 0x33A4C597, 0x44661122, 0xC12F77EE, 0xED157CF8],
  #v[0xF5017AF4, 0xFD0D78F0, 0xD8B4366C, 0x70481C38, 0xE4963972, 0x79CB59B2, 0x60501830, 0x45E956AC],
  #v[0xF68DB37B, 0xFA87B07D, 0x90D82448, 0x80C02040, 0xF28BB279, 0x724B9239, 0xB6EDA35B, 0x27BAC09D],
  #v[0x0D854488, 0x955162C4, 0x40601020, 0xEA9FB475, 0x2A3F8415, 0x11974386, 0x764D933B, 0x2FB6C299],
  #v[0x35A14A94, 0xCEA9BD67, 0x06058F03, 0xB4EE2D5A, 0xCAAFBC65, 0x4A6F9C25, 0xB5616AD4, 0x1D9D4080],
  #v[0x1B98CF83, 0xB2EBA259, 0x3A27801D, 0x21BF4F9E, 0x7C421F3E, 0x0F86CA89, 0x92DBAA49, 0x15914284]]

/-- `BLK_T3`: the bytes of `BLK_T0` in the order that 48_reference_roms.md R175 gives. -/
def refBlkT3 : WordTable := #v[
  #v[0xBBD269BA, 0xE54DA854, 0xE2BC5E2F, 0x25CDE874, 0xF751A653, 0xD06BBBD3, 0xD66FB9D2, 0xB3299A4D],
  #v[0xFD5DA050, 0xCF8A45AC, 0x090E078D, 0xA5C663BF, 0x3DDDE070, 0xF155A452, 0x7B52299A, 0xB52D984C],
  #v[0x468FC9EA, 0xC473B7D5, 0x55663397, 0xDC63BFD1, 0xAACC6633, 0xFB59A251, 0xC771B65B, 0xF3A251A6],
  #v[0xFE5FA1DE, 0xAD3D9048, 0xD79A4DA8, 0x715E2F99, 0xE04BABDB, 0xACC86432, 0x95E673B7, 0x32D7E5FC],
  #v[0x70ABDBE3, 0x6342219E, 0x417E3F91, 0x7D562B9B, 0x76AFD9E2, 0xBDD66BBB, 0x9B198241, 0x79A5DC6E],
  #v[0xF9AE57A5, 0x800B8BCB, 0x67B1D66B, 0x596E3795, 0xE1BE5FA1, 0x10EBFBF3, 0x81FE7FB1, 0x0C080402],
  #v[0x921785CC, 0xA23795C4, 0x4E743A1D, 0x78502814, 0xB02B9BC3, 0x5791C663, 0xE64FA9DA, 0xD369BA5D],
  #v[0xDF61BE5F, 0xF257A5DC, 0x13E9FA7D, 0x941387CD, 0x1FE1FE7F, 0xC175B45A, 0x75ADD86C, 0xD56DB85C],
  #v[0x08FBF3F7, 0xD4984C26, 0x38DBE3FF, 0x5493C7ED, 0x4A87CDE8, 0x694E279D, 0x7FA1DE6F, 0x0302018E],
  #v[0x56643219, 0xE7BA5DA0, 0x1AE7FDF0, 0x111E0F89, 0x223C1E0F, 0x121C0E07, 0xC58643AF, 0x20CBEBFB],
  #v[0x30201008, 0x7E542A15, 0x2E341A0D, 0x18100804, 0x06040201, 0x458DC864, 0xF85BA3DF, 0x29C5EC76],
  #v[0x0BF9F279, 0xF453A7DD, 0x8EF47A3D, 0x74582C16, 0x82FC7E3F, 0xB2DC6E37, 0x73A9DA6D, 0x90E07038],
  #v[0xB1DE6FB9, 0x37D1E673, 0x4C83CFE9, 0xBED46A35, 0xE349AA55, 0x3BD9E271, 0x07F1F67B, 0x0F0A058C],
  #v[0x31D5E472, 0x171A0D88, 0x0EFFF1F6, 0xFCA8542A, 0x84F87C3E, 0xD965BC5E, 0xD29C4E27, 0x89058C46],
  #v[0x2830180C, 0x4389CA65, 0x6DBDD068, 0x5B99C261, 0x0A0C0603, 0xBC239FC1, 0xEF41AE57, 0xCE7FB1D6],
  #v[0xEC43AFD9, 0xCD7DB058, 0xEA47ADD8, 0x4985CC66, 0xC87BB3D7, 0x9CE8743A, 0x8A078DC8, 0x88F0783C],
  #v[0x26CFE9FA, 0x53623196, 0xF5A653A7, 0x775A2D98, 0x5297C5EC, 0xB7DA6DB8, 0xA83B93C7, 0xC38241AE],
  #v[0x6BB9D269, 0xA731964B, 0xDD964BAB, 0xD19E4FA9, 0x4F81CE67, 0x3C28140A, 0x8F018E47, 0x16EFF9F2],
  #v[0x99EE77B5, 0xCC884422, 0x64B3D7E5, 0x5E9FC1EE, 0xA3C261BE, 0xFAAC562B, 0x213E1F81, 0x6C482412],
  #v[0x2D361B83, 0x5A6C361B, 0x24381C0E, 0xCA8C4623, 0x04F3F7F5, 0x83098A45, 0xC6844221, 0x9E1F81CE],
  #v[0xAB399249, 0xE8B0582C, 0x2CC3EFF9, 0x6EBFD1E6, 0x93E271B6, 0xF0A05028, 0x725C2E17, 0x2B321982],
  #v[0x5C68341A, 0x1D160B8B, 0x3EDFE1FE, 0x1B12098A, 0x36241209, 0x8C038FC9, 0x35261387, 0xB9259C4E],
  #v[0x7CA3DFE1, 0xE4B85C2E, 0x62B7D5E4, 0x7AA7DDE0, 0x408BCBEB, 0x477A3D90, 0xFFAA55A4, 0x44783C1E],
  #v[0x392E1785, 0x5D9DC060, 0x00000000, 0xDE944A25, 0x02F7F5F4, 0x1CE3FFF1, 0x5F6A3594, 0x3A2C160B],
  #v[0x68BBD3E7, 0x23C9EA75, 0x589BC3EF, 0xB8D06834, 0xA6C46231, 0xC277B5D4, 0xDA67BDD0, 0x33221186],
  #v[0x19E5FC7E, 0xC98E47AD, 0x34D3E7FD, 0xF6A45229, 0xA0C06030, 0x9AEC763B, 0x6546239F, 0x2AC7EDF8],
  #v[0xAE3F91C6, 0x6A4C2613, 0x14180C06, 0x1E140A05, 0xA43397C5, 0x66442211, 0x2FC1EE77, 0x15EDF87C],
  #v[0x01F5F47A, 0x0DFDF078, 0xB4D86C36, 0x4870381C, 0x96E47239, 0xCB79B259, 0x50603018, 0xE945AC56],
  #v[0x8DF67BB3, 0x87FA7DB0, 0xD8904824, 0xC0804020, 0x8BF279B2, 0x4B723992, 0xEDB65BA3, 0xBA279DC0],
  #v[0x850D8844, 0x5195C462, 0x60402010, 0x9FEA75B4, 0x3F2A1584, 0x97118643, 0x4D763B93, 0xB62F99C2],
  #v[0xA135944A, 0xA9CE67BD, 0x0506038F, 0xEEB45A2D, 0xAFCA65BC, 0x6F4A259C, 0x61B5D46A, 0x9D1D8040],
  #v[0x981B83CF, 0xEBB259A2, 0x273A1D80, 0xBF219E4F, 0x427C3E1F, 0x860F89CA, 0xDB9249AA, 0x91158442]]

/-- `BLK_T4`: the bytes of `BLK_T0` in the order that 48_reference_roms.md R175 gives. -/
def refBlkT4 : WordTable := #v[
  #v[0xBABABABA, 0x54545454, 0x2F2F2F2F, 0x74747474, 0x53535353, 0xD3D3D3D3, 0xD2D2D2D2, 0x4D4D4D4D],
  #v[0x50505050, 0xACACACAC, 0x8D8D8D8D, 0xBFBFBFBF, 0x70707070, 0x52525252, 0x9A9A9A9A, 0x4C4C4C4C],
  #v[0xEAEAEAEA, 0xD5D5D5D5, 0x97979797, 0xD1D1D1D1, 0x33333333, 0x51515151, 0x5B5B5B5B, 0xA6A6A6A6],
  #v[0xDEDEDEDE, 0x48484848, 0xA8A8A8A8, 0x99999999, 0xDBDBDBDB, 0x32323232, 0xB7B7B7B7, 0xFCFCFCFC],
  #v[0xE3E3E3E3, 0x9E9E9E9E, 0x91919191, 0x9B9B9B9B, 0xE2E2E2E2, 0xBBBBBBBB, 0x41414141, 0x6E6E6E6E],
  #v[0xA5A5A5A5, 0xCBCBCBCB, 0x6B6B6B6B, 0x95959595, 0xA1A1A1A1, 0xF3F3F3F3, 0xB1B1B1B1, 0x02020202],
  #v[0xCCCCCCCC, 0xC4C4C4C4, 0x1D1D1D1D, 0x14141414, 0xC3C3C3C3, 0x63636363, 0xDADADADA, 0x5D5D5D5D],
  #v[0x5F5F5F5F, 0xDCDCDCDC, 0x7D7D7D7D, 0xCDCDCDCD, 0x7F7F7F7F, 0x5A5A5A5A, 0x6C6C6C6C, 0x5C5C5C5C],
  #v[0xF7F7F7F7, 0x26262626, 0xFFFFFFFF, 0xEDEDEDED, 0xE8E8E8E8, 0x9D9D9D9D, 0x6F6F6F6F, 0x8E8E8E8E],
  #v[0x19191919, 0xA0A0A0A0, 0xF0F0F0F0, 0x89898989, 0x0F0F0F0F, 0x07070707, 0xAFAFAFAF, 0xFBFBFBFB],
  #v[0x08080808, 0x15151515, 0x0D0D0D0D, 0x04040404, 0x01010101, 0x64646464, 0xDFDFDFDF, 0x76767676],
  #v[0x79797979, 0xDDDDDDDD, 0x3D3D3D3D, 0x16161616, 0x3F3F3F3F, 0x37373737, 0x6D6D6D6D, 0x38383838],
  #v[0xB9B9B9B9, 0x73737373, 0xE9E9E9E9, 0x35353535, 0x55555555, 0x71717171, 0x7B7B7B7B, 0x8C8C8C8C],
  #v[0x72727272, 0x88888888, 0xF6F6F6F6, 0x2A2A2A2A, 0x3E3E3E3E, 0x5E5E5E5E, 0x27272727, 0x46464646],
  #v[0x0C0C0C0C, 0x65656565, 0x68686868, 0x61616161, 0x03030303, 0xC1C1C1C1, 0x57575757, 0xD6D6D6D6],
  #v[0xD9D9D9D9, 0x58585858, 0xD8D8D8D8, 0x66666666, 0xD7D7D7D7, 0x3A3A3A3A, 0xC8C8C8C8, 0x3C3C3C3C],
  #v[0xFAFAFAFA, 0x96969696, 0xA7A7A7A7, 0x98989898, 0xECECECEC, 0xB8B8B8B8, 0xC7C7C7C7, 0xAEAEAEAE],
  #v[0x69696969, 0x4B4B4B4B, 0xABABABAB, 0xA9A9A9A9, 0x67676767, 0x0A0A0A0A, 0x47474747, 0xF2F2F2F2],
  #v[0xB5B5B5B5, 0x22222222, 0xE5E5E5E5, 0xEEEEEEEE, 0xBEBEBEBE, 0x2B2B2B2B, 0x81818181, 0x12121212],
  #v[0x83838383, 0x1B1B1B1B, 0x0E0E0E0E, 0x23232323, 0xF5F5F5F5, 0x45454545, 0x21212121, 0xCECECECE],
  #v[0x49494949, 0x2C2C2C2C, 0xF9F9F9F9, 0xE6E6E6E6, 0xB6B6B6B6, 0x28282828, 0x17171717, 0x82828282],
  #v[0x1A1A1A1A, 0x8B8B8B8B, 0xFEFEFEFE, 0x8A8A8A8A, 0x09090909, 0xC9C9C9C9, 0x87878787, 0x4E4E4E4E],
  #v[0xE1E1E1E1, 0x2E2E2E2E, 0xE4E4E4E4, 0xE0E0E0E0, 0xEBEBEBEB, 0x90909090, 0xA4A4A4A4, 0x1E1E1E1E],
  #v[0x85858585, 0x60606060, 0x00000000, 0x25252525, 0xF4F4F4F4, 0xF1F1F1F1, 0x94949494, 0x0B0B0B0B],
  #v[0xE7E7E7E7, 0x75757575, 0xEFEFEFEF, 0x34343434, 0x31313131, 0xD4D4D4D4, 0xD0D0D0D0, 0x86868686],
  #v[0x7E7E7E7E, 0xADADADAD, 0xFDFDFDFD, 0x29292929, 0x30303030, 0x3B3B3B3B, 0x9F9F9F9F, 0xF8F8F8F8],
  #v[0xC6C6C6C6, 0x13131313, 0x06060606, 0x05050505, 0xC5C5C5C5, 0x11111111, 0x77777777, 0x7C7C7C7C],
  #v[0x7A7A7A7A, 0x78787878, 0x36363636, 0x1C1C1C1C, 0x39393939, 0x59595959, 0x18181818, 0x56565656],
  #v[0xB3B3B3B3, 0xB0B0B0B0, 0x24242424, 0x20202020, 0xB2B2B2B2, 0x92929292, 0xA3A3A3A3, 0xC0C0C0C0],
  #v[0x44444444, 0x62626262, 0x10101010, 0xB4B4B4B4, 0x84848484, 0x43434343, 0x93939393, 0xC2C2C2C2],
  #v[0x4A4A4A4A, 0xBDBDBDBD, 0x8F8F8F8F, 0x2D2D2D2D, 0xBCBCBCBC, 0x9C9C9C9C, 0x6A6A6A6A, 0x40404040],
  #v[0xCFCFCFCF, 0xA2A2A2A2, 0x80808080, 0x4F4F4F4F, 0x1F1F1F1F, 0xCACACACA, 0xAAAAAAAA, 0x42424242]]

/-- `BLK_T5` (48_reference_roms.md R176). -/
def refBlkT5 : WordTable := #v[
  #v[0x00000000, 0x01020608, 0x02040C10, 0x03060A18, 0x04081820, 0x050A1E28, 0x060C1430, 0x070E1238],
  #v[0x08103040, 0x09123648, 0x0A143C50, 0x0B163A58, 0x0C182860, 0x0D1A2E68, 0x0E1C2470, 0x0F1E2278],
  #v[0x10206080, 0x11226688, 0x12246C90, 0x13266A98, 0x142878A0, 0x152A7EA8, 0x162C74B0, 0x172E72B8],
  #v[0x183050C0, 0x193256C8, 0x1A345CD0, 0x1B365AD8, 0x1C3848E0, 0x1D3A4EE8, 0x1E3C44F0, 0x1F3E42F8],
  #v[0x2040C01D, 0x2142C615, 0x2244CC0D, 0x2346CA05, 0x2448D83D, 0x254ADE35, 0x264CD42D, 0x274ED225],
  #v[0x2850F05D, 0x2952F655, 0x2A54FC4D, 0x2B56FA45, 0x2C58E87D, 0x2D5AEE75, 0x2E5CE46D, 0x2F5EE265],
  #v[0x3060A09D, 0x3162A695, 0x3264AC8D, 0x3366AA85, 0x3468B8BD, 0x356ABEB5, 0x366CB4AD, 0x376EB2A5],
  #v[0x387090DD, 0x397296D5, 0x3A749CCD, 0x3B769AC5, 0x3C7888FD, 0x3D7A8EF5, 0x3E7C84ED, 0x3F7E82E5],
  #v[0x40809D3A, 0x41829B32, 0x4284912A, 0x43869722, 0x4488851A, 0x458A8312, 0x468C890A, 0x478E8F02],
  #v[0x4890AD7A, 0x4992AB72, 0x4A94A16A, 0x4B96A762, 0x4C98B55A, 0x4D9AB352, 0x4E9CB94A, 0x4F9EBF42],
  #v[0x50A0FDBA, 0x51A2FBB2, 0x52A4F1AA, 0x53A6F7A2, 0x54A8E59A, 0x55AAE392, 0x56ACE98A, 0x57AEEF82],
  #v[0x58B0CDFA, 0x59B2CBF2, 0x5AB4C1EA, 0x5BB6C7E2, 0x5CB8D5DA, 0x5DBAD3D2, 0x5EBCD9CA, 0x5FBEDFC2],
  #v[0x60C05D27, 0x61C25B2F, 0x62C45137, 0x63C6573F, 0x64C84507, 0x65CA430F, 0x66CC4917, 0x67CE4F1F],
  #v[0x68D06D67, 0x69D26B6F, 0x6AD46177, 0x6BD6677F, 0x6CD87547, 0x6DDA734F, 0x6EDC7957, 0x6FDE7F5F],
  #v[0x70E03DA7, 0x71E23BAF, 0x72E431B7, 0x73E637BF, 0x74E82587, 0x75EA238F, 0x76EC2997, 0x77EE2F9F],
  #v[0x78F00DE7, 0x79F20BEF, 0x7AF401F7, 0x7BF607FF, 0x7CF815C7, 0x7DFA13CF, 0x7EFC19D7, 0x7FFE1FDF],
  #v[0x801D2774, 0x811F217C, 0x82192B64, 0x831B2D6C, 0x84153F54, 0x8517395C, 0x86113344, 0x8713354C],
  #v[0x880D1734, 0x890F113C, 0x8A091B24, 0x8B0B1D2C, 0x8C050F14, 0x8D07091C, 0x8E010304, 0x8F03050C],
  #v[0x903D47F4, 0x913F41FC, 0x92394BE4, 0x933B4DEC, 0x94355FD4, 0x953759DC, 0x963153C4, 0x973355CC],
  #v[0x982D77B4, 0x992F71BC, 0x9A297BA4, 0x9B2B7DAC, 0x9C256F94, 0x9D27699C, 0x9E216384, 0x9F23658C],
  #v[0xA05DE769, 0xA15FE161, 0xA259EB79, 0xA35BED71, 0xA455FF49, 0xA557F941, 0xA651F359, 0xA753F551],
  #v[0xA84DD729, 0xA94FD121, 0xAA49DB39, 0xAB4BDD31, 0xAC45CF09, 0xAD47C901, 0xAE41C319, 0xAF43C511],
  #v[0xB07D87E9, 0xB17F81E1, 0xB2798BF9, 0xB37B8DF1, 0xB4759FC9, 0xB57799C1, 0xB67193D9, 0xB77395D1],
  #v[0xB86DB7A9, 0xB96FB1A1, 0xBA69BBB9, 0xBB6BBDB1, 0xBC65AF89, 0xBD67A981, 0xBE61A399, 0xBF63A591],
  #v[0xC09DBA4E, 0xC19FBC46, 0xC299B65E, 0xC39BB056, 0xC495A26E, 0xC597A466, 0xC691AE7E, 0xC793A876],
  #v[0xC88D8A0E, 0xC98F8C06, 0xCA89861E, 0xCB8B8016, 0xCC85922E, 0xCD879426, 0xCE819E3E, 0xCF839836],
  #v[0xD0BDDACE, 0xD1BFDCC6, 0xD2B9D6DE, 0xD3BBD0D6, 0xD4B5C2EE, 0xD5B7C4E6, 0xD6B1CEFE, 0xD7B3C8F6],
  #v[0xD8ADEA8E, 0xD9AFEC86, 0xDAA9E69E, 0xDBABE096, 0xDCA5F2AE, 0xDDA7F4A6, 0xDEA1FEBE, 0xDFA3F8B6],
  #v[0xE0DD7A53, 0xE1DF7C5B, 0xE2D97643, 0xE3DB704B, 0xE4D56273, 0xE5D7647B, 0xE6D16E63, 0xE7D3686B],
  #v[0xE8CD4A13, 0xE9CF4C1B, 0xEAC94603, 0xEBCB400B, 0xECC55233, 0xEDC7543B, 0xEEC15E23, 0xEFC3582B],
  #v[0xF0FD1AD3, 0xF1FF1CDB, 0xF2F916C3, 0xF3FB10CB, 0xF4F502F3, 0xF5F704FB, 0xF6F10EE3, 0xF7F308EB],
  #v[0xF8ED2A93, 0xF9EF2C9B, 0xFAE92683, 0xFBEB208B, 0xFCE532B3, 0xFDE734BB, 0xFEE13EA3, 0xFFE338AB]]

/-- `BLK_RC` (45_block_cipher.md R155). -/
def refBlkRc : Vector Word 16 := #v[
  0xBA542F74, 0x53D3D24D, 0x50AC8DBF, 0x70529A4C, 0xEAD597D1, 0x33515BA6, 0xDE48A899, 0xDB32B7FC,
  0xE39E919B, 0xE2BB416E, 0xA5CB6B95, 0xA1F3B102, 0xCCC41D14, 0xC363DA5D, 0x5FDC7DCD, 0x7F5A6C5C]

/-- The reference ROM set (48_reference_roms.md R166). -/
def refRom : Rom where
  lfS0 := refLfS0
  lfS1 := refLfS1
  lfD128 := refLfD128
  lfD256 := refLfD256
  ctrA := refCtrA
  srpSb := refSrpSb
  srpPhi := 0x9E3779B9
  srpMula := refSrpMula
  srpDiva := refSrpDiva
  blkS := refBlkS
  blkT0 := refBlkT0
  blkT1 := refBlkT1
  blkT2 := refBlkT2
  blkT3 := refBlkT3
  blkT4 := refBlkT4
  blkT5 := refBlkT5
  blkRc := refBlkRc

/-- The default parameters (00_scope.md R13, 92 D21). `CORE_BASE` has no default in the spec: 0 is DESIGN CHOICE
(log 7). -/
def refConfig : Config where
  nctx := 4
  nsnap := 4
  ibufSize := 4096
  obufSize := 4096
  keybufSize := 32
  ivbufSize := 32
  coreBase := 0
  lfMax128 := 2047
  lfMax256 := 625
  rom := refRom

/-- Every loading constant is non-zero, which is why every loaded LFSR cell is (41_lfsr_fsm.md R111, R112). -/
def LfConstantsNonzero (rom : Rom) : Prop :=
  (∀ i : Fin 16, rom.lfD128[i] ≠ 0) ∧ (∀ i : Fin 16, rom.lfD256[i] ≠ 0)

/-- The generator of the two α tables (43_serpent_derived.md R140): GF(2^8) by `x^8 + x^7 + x^5 + x^3 + 1`, `β` its root. -/
def AlphaTablesFromField (rom : Rom) : Prop :=
  let p (e : Nat) (c : Byte) : Byte := gfMul 0xA9 c (gfPow 0xA9 2 e)
  ∀ c : Byte,
    wordEntry rom.srpMula c = be32 (p 23 c) (p 245 c) (p 48 c) (p 239 c) ∧
    wordEntry rom.srpDiva c = be32 (p 16 c) (p 39 c) (p 6 c) (p 64 c)

/-- Multiplication in the field of the block cipher, GF(2^8) by `x^8 + x^4 + x^3 + x^2 + 1` (45_block_cipher.md R155). -/
def blkMul (a b : Byte) : Byte := gfMul 0x1D a b

/-- The formulas of the six tables and of the round constants (45_block_cipher.md R155). -/
def BlockTablesFromSbox (rom : Rom) : Prop :=
  (∀ x : Byte,
    let s := byteEntry rom.blkS x
    wordEntry rom.blkT0 x = be32 s (blkMul 2 s) (blkMul 4 s) (blkMul 6 s) ∧
    wordEntry rom.blkT1 x = be32 (blkMul 2 s) s (blkMul 6 s) (blkMul 4 s) ∧
    wordEntry rom.blkT2 x = be32 (blkMul 4 s) (blkMul 6 s) s (blkMul 2 s) ∧
    wordEntry rom.blkT3 x = be32 (blkMul 6 s) (blkMul 4 s) (blkMul 2 s) s ∧
    wordEntry rom.blkT4 x = be32 s s s s ∧
    wordEntry rom.blkT5 x = be32 x (blkMul 2 x) (blkMul 6 x) (blkMul 8 x)) ∧
  (∀ r : Fin 16, rom.blkRc[r] =
    be32 (byteEntry rom.blkS (BitVec.ofNat 8 (4 * r))) (byteEntry rom.blkS (BitVec.ofNat 8 (4 * r + 1)))
      (byteEntry rom.blkS (BitVec.ofNat 8 (4 * r + 2))) (byteEntry rom.blkS (BitVec.ofNat 8 (4 * r + 3))))

/-- `BLK_S` is an involution (45_block_cipher.md R155). -/
def BlockSboxInvolutive (rom : Rom) : Prop := ∀ x : Byte, byteEntry rom.blkS (byteEntry rom.blkS x) = x

end Sys2Proof.Machine
end

