-- ==== Sys2Proof/Machine/State.lean ====
section
/-!
DEFINITION. The state of CORE as plain data (10_state.md R20): contexts, snapshot slots, the four byte memories and the
registers; with the configuration it runs under (log 6), the host accesses not yet served (log 4), the last value a
host read returned (log 5) and the counter of free-value events (log 3). Also the named reasons a step can stop, and
the state after HRESET.
-/

namespace Sys2Proof.Machine

/-! ### Cipher states (10_state.md R22, R25 to R28) -/

/-- KeystreamBuffer and buffer cursor: `ks[idx..]` are the next keystream bytes, `idx = BUFLEN` means none is left
(10_state.md R30, R31). -/
structure KeystreamBuffer where
  ks : List Byte
  idx : Nat
deriving DecidableEq, Repr

/-- CipherState of LF128 and of LF256 (10_state.md R25): sixteen LFSR words, two FSM registers, the IterationCounter
(R32), the 4-byte buffer. -/
structure LfState where
  s : Vector Word 16
  r1 : Word
  r2 : Word
  iter : Nat
  buf : KeystreamBuffer
deriving DecidableEq, Repr

/-- One register set of CTR (10_state.md R26): eight state words, eight counters, the carry bit (R36). -/
structure CtrSet where
  x : Vector Word 8
  c : Vector Word 8
  b : Bool
deriving DecidableEq, Repr

/-- CipherState of CTR (10_state.md R26). -/
structure CtrState where
  master : CtrSet
  work : CtrSet
  buf : KeystreamBuffer
deriving DecidableEq, Repr

/-- CipherState of SRP (10_state.md R27): 100 subkey words, ten LFSR words (`lfsr[0]` leaves next), two FSM registers,
the 80-byte buffer. -/
structure SrpState where
  sk : List Word
  lfsr : Vector Word 10
  r1 : Word
  r2 : Word
  buf : KeystreamBuffer
deriving DecidableEq, Repr

/-- CipherState of BLK (10_state.md R28): number of key words, number of rounds, the `R + 1` encryption and the `R + 1`
decryption subkeys of four words each, the direction. -/
structure BlkState where
  n : Nat
  r : Nat
  ke : List (Vector Word 4)
  kd : List (Vector Word 4)
  dir : Bool
deriving DecidableEq, Repr

/-- The CipherState of a stream engine. -/
inductive StreamState where
  | lf128 (st : LfState)
  | lf256 (st : LfState)
  | ctr (st : CtrState)
  | srp (st : SrpState)
deriving DecidableEq, Repr

/-- A CipherState (10_state.md R22). -/
inductive CipherState where
  | stream (st : StreamState)
  | blk (st : BlkState)
deriving DecidableEq, Repr

/-! ### Errors (60_exceptions.md R177 to R180) -/

/-- Configuration errors, class 1 (60_exceptions.md R178). -/
inductive ConfigError where
  | noKey | keyLen | noIv | ivLen
deriving DecidableEq, Repr

/-- Usage errors, class 2 (60_exceptions.md R179). -/
inductive UsageError where
  | illegalCmd | badIndex | notInit | deadCtx | bufShort | noRetbyte | snapEmpty | snapMismatch
deriving DecidableEq, Repr

/-- Exhaustion errors, class 3 (60_exceptions.md R180). -/
inductive ExhaustionError where
  | wordLimit
deriving DecidableEq, Repr

/-- The errors that are terminal for an instance (60_exceptions.md R184). -/
inductive TerminalError where
  | config (e : ConfigError)
  | exhausted (e : ExhaustionError)
deriving DecidableEq, Repr

/-- Every error a command can raise (60_exceptions.md R177). -/
inductive CoreError where
  | usage (e : UsageError)
  | terminal (e : TerminalError)
deriving DecidableEq, Repr

/-! ### Contexts and slots -/

/-- A context (10_state.md R21). The engine of a READY context is that of its CipherState (log 13). -/
inductive Context where
  | empty
  | ready (cur rst : CipherState)
  | dead (e : TerminalError)
deriving DecidableEq, Repr

/-- What a used snapshot slot holds (10_state.md R34). -/
structure Snapshot where
  cur : CipherState
  rst : CipherState
deriving DecidableEq, Repr

/-! ### Memories and host accesses -/

/-- The bytes of one memory that have been written since HRESET, addresses strictly rising. An address not listed
holds no written byte: it reads as `none` here, and as the free value `Config.powerOnByte` in `State.readByte` (log 1). -/
abbrev Memory := List Host.Cell

/-- The canonical form of a memory: addresses strictly rising. No entry can equal what an unlisted address reads as
(`none`), so equal memories are equal lists. -/
abbrev Memory.wf (m : Memory) : Prop := m.Pairwise (fun a b => a.1 < b.1)

/-- One host access (20_memory.md R57): an address, a width in bytes, and for a write the value. Of a write narrower
than 32 bits only the low bits of `value` count (log 12). -/
inductive HostAccess where
  | read (addr size : Nat)
  | write (addr size : Nat) (value : Word)
deriving DecidableEq, Repr

/-! ### Reasons to stop -/

/-- Reasons a step stops with a fault. No command raises one: CORE's own errors are values in `STATUS`. -/
inductive Fault where
  /-- Raised by a step that serves a host access outside CORE's region of 0x30000 bytes (20_memory.md R55): there is
  nothing of CORE at that address. Safe (log 9). -/
  | outsideRegion
deriving DecidableEq, Repr

/-- Reasons a step is refused. -/
inductive Refusal where
  /-- An instruction without a meaning. No arm of `exec` answers it. Safe. -/
  | notModelled (mnemonic : String)
  /-- A host access that is not naturally aligned (20_memory.md R59, 93 U2), raised by a step that serves it. Safe (log 8). -/
  | misalignedAccess
  /-- A host access of a width other than 8, 16 or 32 bits (20_memory.md R57, 93 U2), raised by a step that serves it.
  Safe (log 8). -/
  | unsupportedWidth
  /-- A host access narrower than 32 bits on a register (20_memory.md R59, 93 U2), raised by a step that serves it.
  Safe (log 8). -/
  | narrowRegisterAccess
  /-- A host access that straddles the end of a buffer window (93 U2), raised by a step that serves it. Safe (log 8). -/
  | straddlesWindow
deriving DecidableEq, Repr

/-! ### The state -/

/-- The state of CORE (10_state.md R20) with its configuration and the model's own fields. -/
structure State where
  /-- The parameters and ROM tables: configuration, which no step changes (log 6). -/
  cfg : Config
  cmd : Word
  status : Word
  result : Word
  arg0 : Word
  arg1 : Word
  arg2 : Word
  ctx : List Context
  slot : List (Option Snapshot)
  keybuf : Memory
  ivbuf : Memory
  ibuf : Memory
  obuf : Memory
  /-- The model's own: host accesses issued and not yet served, oldest first (log 4). -/
  pending : List HostAccess
  /-- The model's own: what the last host read returned (log 5). -/
  busData : Word
  /-- The model's own: the number of the next event that leaves free values behind (log 3). -/
  freeCount : Nat
deriving DecidableEq, Repr

/-- The state after HRESET of a CORE with configuration `cfg` (10_state.md R49, 70_reset_and_hazards.md R193). -/
def State.hreset (cfg : Config) : State where
  cfg := cfg
  cmd := 0
  status := 0
  result := 0
  arg0 := 0
  arg1 := 0
  arg2 := 0
  ctx := List.replicate cfg.nctx .empty
  slot := List.replicate cfg.nsnap none
  keybuf := []
  ivbuf := []
  ibuf := []
  obuf := []
  pending := []
  busData := 0
  freeCount := 0

/-- The state after HRESET with the default parameters of 00_scope.md R13. -/
def State.reset : State := State.hreset refConfig

end Sys2Proof.Machine
end

