-- ==== Sys2Proof/Machine/Flags.lean ====
section
/-!
DEFINITION. The status flags the host sees (10_state.md R37): class and code numbers of the errors
(60_exceptions.md R177 to R180), the STATUS word (10_state.md R40), and the view CTXSTAT (R44).
-/

namespace Sys2Proof.Machine

/-- The engine of a stream CipherState. -/
def StreamState.engine : StreamState → Engine
  | .lf128 _ => .lf128
  | .lf256 _ => .lf256
  | .ctr _ => .ctr
  | .srp _ => .srp

/-- The engine a CipherState belongs to (10_state.md R21). -/
def CipherState.engine : CipherState → Engine
  | .stream st => st.engine
  | .blk _ => .blk

/-- Codes of configuration errors (60_exceptions.md R178). -/
def ConfigError.code : ConfigError → BitVec 4
  | .noKey => 1
  | .keyLen => 2
  | .noIv => 3
  | .ivLen => 4

/-- Codes of usage errors (60_exceptions.md R179). -/
def UsageError.code : UsageError → BitVec 4
  | .illegalCmd => 1
  | .badIndex => 2
  | .notInit => 3
  | .deadCtx => 4
  | .bufShort => 5
  | .noRetbyte => 6
  | .snapEmpty => 7
  | .snapMismatch => 8

/-- Codes of exhaustion errors (60_exceptions.md R180). -/
def ExhaustionError.code : ExhaustionError → BitVec 4
  | .wordLimit => 1

/-- Class number of a terminal error: CONFIG 1, EXHAUSTED 3 (60_exceptions.md R177). -/
def TerminalError.cls : TerminalError → BitVec 2
  | .config _ => 1
  | .exhausted _ => 3

/-- Code of a terminal error within its class. -/
def TerminalError.code : TerminalError → BitVec 4
  | .config e => e.code
  | .exhausted e => e.code

/-- Class number: CONFIG 1, USAGE 2, EXHAUSTED 3 (60_exceptions.md R177). -/
def CoreError.cls : CoreError → BitVec 2
  | .usage _ => 2
  | .terminal e => e.cls

/-- Code of an error within its class. -/
def CoreError.code : CoreError → BitVec 4
  | .usage e => e.code
  | .terminal e => e.code

/-- The STATUS word of command `cw` (10_state.md R40, 60_exceptions.md R182): [31:16] 0, [15:12] OP, [11:8] CTX,
[7:4] CODE, [3:2] 0, [1:0] CLASS. -/
def statusWord (cw : Word) (cls : BitVec 2) (code : BitVec 4) : Word :=
  0#16 ++ opField cw ++ ctxField cw ++ code ++ 0#2 ++ cls

/-- STATUS after a command that succeeded: class 0, code 0 (60_exceptions.md R182). -/
def okStatus (cw : Word) : Word := statusWord cw 0 0

/-- STATUS after a command that raised `e` (60_exceptions.md R182). -/
def errorStatus (cw : Word) (e : CoreError) : Word := statusWord cw e.cls e.code

/-- The layout of CTXSTAT (10_state.md R44): [19:16] DCODE, [13:12] DCLASS, [8] DIR, [7:4] ENG, [1:0] LIFE, all other
bits 0. -/
def ctxStatWord (life : BitVec 2) (eng : BitVec 4) (dir : Bool) (dclass : BitVec 2) (dcode : BitVec 4) : Word :=
  0#12 ++ dcode ++ 0#2 ++ dclass ++ 0#3 ++ BitVec.ofBool dir ++ eng ++ 0#2 ++ life

/-- The field `DIR` of CTXSTAT: `cur.dir` for BLK, 0 for a stream engine (10_state.md R44, 40_contract.md R86). -/
def CipherState.dirBit : CipherState → Bool
  | .stream _ => false
  | .blk st => st.dir

/-- The view of a context that CTXSTAT gives (10_state.md R44). -/
def Context.stat : Context → Word
  | .empty => ctxStatWord 0 0 false 0 0
  | .ready cur _ => ctxStatWord 1 cur.engine.id cur.dirBit 0 0
  | .dead e => ctxStatWord 2 0 false e.cls e.code

end Sys2Proof.Machine
end

