-- ==== Sys2Proof/Machine/Ops.lean ====
section
/-!
DEFINITION. The named operations every command is made of: the byte memories (20_memory.md R51 to R54), contexts and
slots, and the common part of a command (40_contract.md R82) with its one way to succeed and its one way to raise an
error (60_exceptions.md R182). There is no return from an error (60_exceptions.md R183): the next command is decoded
and executed normally.
-/

namespace Sys2Proof.Machine

/-- What a step or a meaning answers. -/
abbrev Out := Host.Outcome State Fault Refusal

/-! ### Byte memories -/

/-- The byte written last at an address since HRESET, `none` if nothing was written there. -/
def Memory.read? (m : Memory) (a : Nat) : Option Byte := (m.find? (fun cell => cell.1 == a)).map (·.2)

/-- The cells of consecutive bytes from an address. -/
def cellsFrom (base : Nat) : List Byte → List Host.Cell
  | [] => []
  | b :: bs => (base, b) :: cellsFrom (base + 1) bs

/-- `MemWrite` (00_scope.md R17): `bytes` at `base, base+1, ..`; every other address is left alone. -/
def Memory.write (m : Memory) (base : Nat) (bytes : List Byte) : Memory :=
  match bytes with
  | [] => m
  | b :: bs =>
    m.filter (fun cell => decide (cell.1 < base)) ++ cellsFrom base (b :: bs)
      ++ m.filter (fun cell => decide (base + (bs.length + 1) ≤ cell.1))

/-- One of the four memories (10_state.md R45). -/
def State.mem (s : State) : Buffer → Memory
  | .keybuf => s.keybuf
  | .ivbuf => s.ivbuf
  | .ibuf => s.ibuf
  | .obuf => s.obuf

/-- The state with one memory replaced. -/
def State.withMem (s : State) (buf : Buffer) (m : Memory) : State :=
  match buf with
  | .keybuf => { s with keybuf := m }
  | .ivbuf => { s with ivbuf := m }
  | .ibuf => { s with ibuf := m }
  | .obuf => { s with obuf := m }

/-- A byte read (00_scope.md R17). A byte that nothing has written since HRESET is a free value (10_state.md R49,
93 U1, log 1). -/
def State.readByte (s : State) (buf : Buffer) (a : Nat) : Byte :=
  match (s.mem buf).read? a with
  | some b => b
  | none => Config.powerOnByte buf a

/-- `MemRead(buf, base, n)` (00_scope.md R17). -/
def State.readBytes (s : State) (buf : Buffer) (base n : Nat) : List Byte :=
  (List.range n).map fun i => s.readByte buf (base + i)

/-- `MemWrite(buf, base, n, bytes)` (00_scope.md R17). -/
def State.writeBytes (s : State) (buf : Buffer) (base : Nat) (bytes : List Byte) : State :=
  s.withMem buf ((s.mem buf).write base bytes)

/-! ### Contexts and slots -/

/-- `ctx[c]` (00_scope.md R17). -/
def State.context (s : State) (c : BitVec 4) : Context := s.ctx.getD c.toNat .empty

/-- `ctx[c] <- x`. -/
def State.setContext (s : State) (c : BitVec 4) (x : Context) : State := { s with ctx := s.ctx.set c.toNat x }

/-- `slot[k]` (00_scope.md R17). -/
def State.snapshotAt (s : State) (k : BitVec 4) : Option Snapshot := s.slot.getD k.toNat none

/-- `slot[k] <- x`. -/
def State.setSnapshot (s : State) (k : BitVec 4) (x : Option Snapshot) : State := { s with slot := s.slot.set k.toNat x }

/-! ### Succeeding and raising -/

/-- Step (1) of every command: `CMD <- cw` (40_contract.md R82). -/
def State.latch (s : State) (cw : Word) : State := { s with cmd := cw }

/-- STATUS and RESULT, the two registers every command writes (10_state.md R40, R41). -/
def State.report (s : State) (status result : Word) : State := { s with status := status, result := result }

/-- Step (5) of every command (40_contract.md R82): STATUS says OK with the OP and CTX of the command, RESULT is the
command's result. -/
def State.succeed (s : State) (result : Word) : Out := .next (s.report (okStatus s.cmd) result)

/-- The effect an error has on the command's context (60_exceptions.md R178, R179, R180): none for a usage error, DEAD
for a terminal one. -/
def State.applyError (s : State) (e : CoreError) : State :=
  match e with
  | .usage _ => s
  | .terminal t => s.setContext (ctxField s.cmd) (.dead t)

/-- `raise E(class, code)` inside the command `s.cmd` (60_exceptions.md R182): the effect on the context, STATUS,
RESULT 0, end of the command. This is how CORE takes an exception: no vector, no handler, no saved register. -/
def State.raise (s : State) (e : CoreError) : Out :=
  .next ((s.applyError e).report (errorStatus s.cmd e) 0)

/-- Steps (1) to (3) of a command on context `c` (40_contract.md R82), and then its own part. -/
def onContext (i : Instr) (c : BitVec 4) (s : State) (body : State → Context → Out) : Out :=
  let s := s.latch (encode i)
  if s.cfg.nctx ≤ c.toNat then s.raise (.usage .badIndex) else body s (s.context c)

/-- The lifecycle check of the commands that need a READY context: DEAD before EMPTY (40_contract.md R83,
60_exceptions.md R186). -/
def needReady (s : State) (x : Context) (body : CipherState → CipherState → Out) : Out :=
  match x with
  | .dead _ => s.raise (.usage .deadCtx)
  | .empty => s.raise (.usage .notInit)
  | .ready cur rst => body cur rst

/-- The index check of the commands with a slot operand (40_contract.md R82 step 3, after that of `CTX`). -/
def needSlot (s : State) (k : BitVec 4) (body : Out) : Out :=
  if s.cfg.nsnap ≤ k.toNat then s.raise (.usage .badIndex) else body

end Sys2Proof.Machine
end

