-- ==== Sys2Proof/Machine/Bus.lean ====
section
/-!
DEFINITION. Host accesses: the address map of CORE (20_memory.md R55; 10_state.md R38 to R44), the access rules
(20_memory.md R51, R57 to R59), reads and writes of registers and buffer windows. A write to `CMD` is told apart here
and runs its command in Machine/Command.lean.
-/

namespace Sys2Proof.Machine

/-- A register of the register page (10_state.md R38 to R44). -/
inductive Reg where
  | cmd | status | result | arg0 | arg1 | arg2
  | ctxstat (c : Nat)
deriving DecidableEq, Repr

/-- What an access of CORE's region reaches. -/
inductive Target where
  | reg (r : Reg)
  | window (buf : Buffer) (index : Nat)
  | reserved
deriving DecidableEq, Repr

/-- The size of CORE's region in bytes (20_memory.md R55). -/
def regionSize : Nat := 0x30000

/-- The register at a 4-byte aligned offset of the register page, the windows apart; `none` for a reserved offset
(10_state.md R38 to R42, R44). -/
def regAt (offset : Nat) : Option Reg :=
  if offset = 0x000 then some .cmd
  else if offset = 0x004 then some .status
  else if offset = 0x008 then some .result
  else if offset = 0x00C then some .arg0
  else if offset = 0x010 then some .arg1
  else if offset = 0x014 then some .arg2
  else if 0x020 ≤ offset ∧ offset < 0x060 then some (.ctxstat ((offset - 0x020) / 4))
  else none

/-- Where the buffer windows lie: the first offset of each (20_memory.md R55, R58). -/
def windowBase : Buffer → Nat
  | .keybuf => 0x00080
  | .ivbuf => 0x000A0
  | .ibuf => 0x10000
  | .obuf => 0x20000

/-- The buffer whose window holds an offset (20_memory.md R55, R58). -/
def bufferAt (cfg : Config) (offset : Nat) : Option Buffer :=
  if 0x00080 ≤ offset ∧ offset < 0x00080 + cfg.keybufSize then some .keybuf
  else if 0x000A0 ≤ offset ∧ offset < 0x000A0 + cfg.ivbufSize then some .ivbuf
  else if 0x10000 ≤ offset ∧ offset < 0x10000 + cfg.ibufSize then some .ibuf
  else if 0x20000 ≤ offset ∧ offset < 0x20000 + cfg.obufSize then some .obuf
  else none

/-- What a naturally aligned access of `size` bytes (1, 2 or 4) at an offset of the region reaches; refused where
20_memory.md R59 and 93 U2 leave it unspecified. -/
def targetAt (cfg : Config) (offset size : Nat) : Except Refusal Target :=
  match bufferAt cfg offset with
  | some buf =>
    if offset + size ≤ windowBase buf + cfg.size buf then .ok (.window buf (offset - windowBase buf))
    else .error .straddlesWindow
  | none =>
    match regAt (offset - offset % 4) with
    | some r => if size = 4 then .ok (.reg r) else .error .narrowRegisterAccess
    | none => .ok .reserved

/-- What a host access comes to, before it acts. -/
inductive Located where
  | at (t : Target)
  | outside
  | refused (r : Refusal)
deriving DecidableEq, Repr

/-- Where a host access at an address of the platform goes (20_memory.md R55, R57, R59). -/
def locate (cfg : Config) (addr size : Nat) : Located :=
  if addr < cfg.coreBase ∨ cfg.coreBase + regionSize ≤ addr then .outside
  else if ¬(size = 1 ∨ size = 2 ∨ size = 4) then .refused .unsupportedWidth
  else if (addr - cfg.coreBase) % size ≠ 0 then .refused .misalignedAccess
  else
    match targetAt cfg (addr - cfg.coreBase) size with
    | .ok t => .at t
    | .error r => .refused r

/-- The value of a register (10_state.md R38 to R41, R44). `CTXSTAT[c]` for `c >= NCTX` reads 0. -/
def State.readReg (s : State) : Reg → Word
  | .cmd => s.cmd
  | .status => s.status
  | .result => s.result
  | .arg0 => s.arg0
  | .arg1 => s.arg1
  | .arg2 => s.arg2
  | .ctxstat c => if c < s.cfg.nctx then (s.ctx.getD c .empty).stat else 0

/-- Bytes as a number, the byte at the lowest offset least significant (20_memory.md R57). -/
def composeLe : List Byte → Nat
  | [] => 0
  | b :: bs => b.toNat + 256 * composeLe bs

/-- The low `n` bytes of a value, least significant first (20_memory.md R57). -/
def splitLe (v : Word) : Nat → List Byte
  | 0 => []
  | n + 1 => v.extractLsb' 0 8 :: splitLe (v >>> 8) n

/-- The value a host read of `size` bytes returns (20_memory.md R55, R57): reserved offsets read 0. -/
def State.readTarget (s : State) (t : Target) (size : Nat) : Word :=
  match t with
  | .reg r => s.readReg r
  | .window buf i => BitVec.ofNat 32 (composeLe (s.readBytes buf i size))
  | .reserved => 0

/-- A host write to a register other than `CMD`: `ARG0..2` take the value, the read-only registers ignore it
(20_memory.md R51, 93 U9). -/
def State.writeReg (s : State) (r : Reg) (v : Word) : State :=
  match r with
  | .arg0 => { s with arg0 := v }
  | .arg1 => { s with arg1 := v }
  | .arg2 => { s with arg2 := v }
  | .cmd | .status | .result | .ctxstat _ => s

/-- A host write to a window: `OBUF` ignores it (20_memory.md R51, 93 U9). -/
def State.writeWindow (s : State) (buf : Buffer) (i size : Nat) (v : Word) : State :=
  match buf with
  | .obuf => s
  | .keybuf | .ivbuf | .ibuf => s.writeBytes buf i (splitLe v size)

/-- A host write other than one to `CMD` (20_memory.md R51, R61): reserved offsets ignore it. -/
def State.writeTarget (s : State) (t : Target) (size : Nat) (v : Word) : State :=
  match t with
  | .reg r => s.writeReg r v
  | .window buf i => s.writeWindow buf i size v
  | .reserved => s

end Sys2Proof.Machine
end

