-- ==== Sys2Proof/Machine/Block.lean ====
section
/-!
DEFINITION. The block cipher engine BLK (45_block_cipher.md R151 to R161).
-/

namespace Sys2Proof.Machine

/-- Subkey extraction step for one key word (45_block_cipher.md R156): `K[j]` from the `K[j]` of the words above it. -/
def blkExtractStep (rom : Rom) (kappa : Word) (k : Vector Word 4) : Vector Word 4 :=
  let next (j : Fin 4) : Word :=
    wordEntry rom.blkT4 (byteOf kappa j)
      ^^^ (wordEntry rom.blkT5 (byteOf k[j] 0) &&& 0xFF000000)
      ^^^ (wordEntry rom.blkT5 (byteOf k[j] 1) &&& 0x00FF0000)
      ^^^ (wordEntry rom.blkT5 (byteOf k[j] 2) &&& 0x0000FF00)
      ^^^ (wordEntry rom.blkT5 (byteOf k[j] 3) &&& 0x000000FF)
  #v[next 0, next 1, next 2, next 3]

/-- Subkey extraction from the key words `kappa[0..N-1]`, the last word first (45_block_cipher.md R156). -/
def blkExtract (rom : Rom) : List Word → Vector Word 4
  | [] => #v[0, 0, 0, 0]
  | [k] =>
    #v[wordEntry rom.blkT4 (byteOf k 0), wordEntry rom.blkT4 (byteOf k 1), wordEntry rom.blkT4 (byteOf k 2),
       wordEntry rom.blkT4 (byteOf k 3)]
  | k :: k' :: ks => blkExtractStep rom k (blkExtract rom (k' :: ks))

/-- Key state evolution of round `r` (45_block_cipher.md R156); indices modulo the number of key words. -/
def blkEvolve (rom : Rom) (r : Nat) (kappa : List Word) : List Word :=
  let n := kappa.length
  (List.range n).map fun i =>
    wordEntry rom.blkT0 (byteOf (wordAt kappa i) 0)
      ^^^ wordEntry rom.blkT1 (byteOf (wordAt kappa ((i + n - 1) % n)) 1)
      ^^^ wordEntry rom.blkT2 (byteOf (wordAt kappa ((i + n - 2) % n)) 2)
      ^^^ wordEntry rom.blkT3 (byteOf (wordAt kappa ((i + n - 3) % n)) 3)
      ^^^ (if i = 0 then wordAt rom.blkRc.toList r else 0)

/-- The encryption subkeys of rounds `r, r+1, ..`, `m` of them (45_block_cipher.md R156). -/
def blkSubkeys (rom : Rom) : (m r : Nat) → List Word → List (Vector Word 4)
  | 0, _, _ => []
  | m + 1, r, kappa => blkExtract rom kappa :: blkSubkeys rom m (r + 1) (blkEvolve rom r kappa)

/-- The key words `kappa[0..n-1]`, big-endian (45_block_cipher.md R156). -/
def blkKeyWords (n : Nat) (key : List Byte) : List Word :=
  (List.range n).map fun i =>
    be32 (byteAt key (4 * i)) (byteAt key (4 * i + 1)) (byteAt key (4 * i + 2)) (byteAt key (4 * i + 3))

/-- Subkey `r` of a list of subkeys; the rules index `0..R` only (log 18). -/
def subkeyAt (ks : List (Vector Word 4)) (r : Nat) : Vector Word 4 := ks.getD r #v[0, 0, 0, 0]

/-- One word of an intermediate decryption subkey (45_block_cipher.md R157). -/
def blkInvWord (rom : Rom) (v : Word) : Word :=
  let s (j : Nat) : Byte := (wordEntry rom.blkT4 (byteOf v j)).extractLsb' 0 8
  wordEntry rom.blkT0 (s 0) ^^^ wordEntry rom.blkT1 (s 1) ^^^ wordEntry rom.blkT2 (s 2) ^^^ wordEntry rom.blkT3 (s 3)

/-- `BlkInvKeys` (45_block_cipher.md R157): the subkeys in reverse order, the intermediate ones through the diffusion
matrix. -/
def blkInvKeys (rom : Rom) (ke : List (Vector Word 4)) (rounds : Nat) : List (Vector Word 4) :=
  (List.range (rounds + 1)).map fun r =>
    let k := subkeyAt ke (rounds - r)
    if r = 0 ∨ r = rounds then k
    else #v[blkInvWord rom k[0], blkInvWord rom k[1], blkInvWord rom k[2], blkInvWord rom k[3]]

/-- `BlkInit` (45_block_cipher.md R158), with `BlkKeySetup` (R156): `N = length(key) / 4`, `R = 8 + N`. -/
def blkInit (rom : Rom) (key : List Byte) (dir : Bool) : BlkState :=
  let n := key.length / 4
  let r := 8 + n
  let ke := blkSubkeys rom (r + 1) 0 (blkKeyWords n key)
  { n := n, r := r, ke := ke, kd := blkInvKeys rom ke r, dir := dir }

/-- One full round (45_block_cipher.md R159): new word `j` takes byte `j` of each old word. -/
def blkRound (rom : Rom) (st k : Vector Word 4) : Vector Word 4 :=
  let next (j : Fin 4) : Word :=
    wordEntry rom.blkT0 (byteOf st[0] j) ^^^ wordEntry rom.blkT1 (byteOf st[1] j)
      ^^^ wordEntry rom.blkT2 (byteOf st[2] j) ^^^ wordEntry rom.blkT3 (byteOf st[3] j) ^^^ k[j]
  #v[next 0, next 1, next 2, next 3]

/-- The final round: masked lookups, no diffusion (45_block_cipher.md R159). -/
def blkFinalRound (rom : Rom) (st k : Vector Word 4) : Vector Word 4 :=
  let next (j : Fin 4) : Word :=
    (wordEntry rom.blkT0 (byteOf st[0] j) &&& 0xFF000000) ^^^ (wordEntry rom.blkT1 (byteOf st[1] j) &&& 0x00FF0000)
      ^^^ (wordEntry rom.blkT2 (byteOf st[2] j) &&& 0x0000FF00) ^^^ (wordEntry rom.blkT3 (byteOf st[3] j) &&& 0x000000FF)
      ^^^ k[j]
  #v[next 0, next 1, next 2, next 3]

/-- Full rounds with subkeys `r, r+1, ..`, `n` of them (45_block_cipher.md R159). -/
def blkRounds (rom : Rom) (rk : List (Vector Word 4)) : (n r : Nat) → Vector Word 4 → Vector Word 4
  | 0, _, st => st
  | n + 1, r, st => blkRounds rom rk n (r + 1) (blkRound rom st (subkeyAt rk r))

/-- The four big-endian words of a block (45_block_cipher.md R159). -/
def blockWords (blk : List Byte) : Vector Word 4 :=
  let b := byteAt blk
  #v[be32 (b 0) (b 1) (b 2) (b 3), be32 (b 4) (b 5) (b 6) (b 7), be32 (b 8) (b 9) (b 10) (b 11),
     be32 (b 12) (b 13) (b 14) (b 15)]

/-- The sixteen bytes of four words, big-endian (45_block_cipher.md R159). -/
def blockBytes (st : Vector Word 4) : List Byte := toBe32 st[0] ++ toBe32 st[1] ++ toBe32 st[2] ++ toBe32 st[3]

/-- The block transform under one subkey array (45_block_cipher.md R159). -/
def blkTransform (rom : Rom) (rk : List (Vector Word 4)) (rounds : Nat) (blk : List Byte) : List Byte :=
  let st := quadXor (blockWords blk) (subkeyAt rk 0)
  blockBytes (blkFinalRound rom (blkRounds rom rk (rounds - 1) 1 st) (subkeyAt rk rounds))

/-- The subkeys a context uses: `ke` to encrypt, `kd` to decrypt (45_block_cipher.md R159). -/
def blkSchedule (st : BlkState) : List (Vector Word 4) := if st.dir then st.ke else st.kd

/-- `BlkCrypt` (45_block_cipher.md R159). -/
def blkCrypt (rom : Rom) (st : BlkState) (blk : List Byte) : List Byte := blkTransform rom (blkSchedule st) st.r blk

end Sys2Proof.Machine
end

