-- ==== Sys2Proof/Machine/Counter.lean ====
section
/-!
DEFINITION. The counter/nonlinear-feedback engine CTR (42_counter.md R122 to R133).
-/

namespace Sys2Proof.Machine

/-- A carry bit as a word. -/
def carryWord (b : Bool) : Word := if b then 1 else 0

/-- One counter of the carry chain: its new value (42_counter.md R126). -/
def ctrAdd (old a : Word) (b : Bool) : Word := old + a + carryWord b

/-- The carry out of one counter, by unsigned-wraparound comparison (42_counter.md R126). -/
def ctrCarry (old a : Word) (b : Bool) : Bool := decide (ctrAdd old a b < old)

/-- `CounterUpdate` (42_counter.md R126): eight counters, each taking the carry of the one before it. -/
def ctrCounterUpdate (rom : Rom) (cnt : Vector Word 8) (b : Bool) : Vector Word 8 × Bool :=
  let a := rom.ctrA
  let b1 := ctrCarry cnt[0] a[0] b
  let b2 := ctrCarry cnt[1] a[1] b1
  let b3 := ctrCarry cnt[2] a[2] b2
  let b4 := ctrCarry cnt[3] a[3] b3
  let b5 := ctrCarry cnt[4] a[4] b4
  let b6 := ctrCarry cnt[5] a[5] b5
  let b7 := ctrCarry cnt[6] a[6] b6
  let b8 := ctrCarry cnt[7] a[7] b7
  (#v[ctrAdd cnt[0] a[0] b, ctrAdd cnt[1] a[1] b1, ctrAdd cnt[2] a[2] b2, ctrAdd cnt[3] a[3] b3, ctrAdd cnt[4] a[4] b4,
      ctrAdd cnt[5] a[5] b5, ctrAdd cnt[6] a[6] b6, ctrAdd cnt[7] a[7] b7], b8)

/-- The g-function (42_counter.md R127): the exact 64-bit square of the wrapped sum, its halves XOR-ed. -/
def ctrG (u v : Word) : Word :=
  let t := u + v
  let q := t.toNat * t.toNat
  BitVec.ofNat 32 (q % 2 ^ 32) ^^^ BitVec.ofNat 32 (q / 2 ^ 32)

/-- `NextState` (42_counter.md R128): counters first, then all g-values from the old words and the new counters, then
the new words. -/
def ctrNextState (rom : Rom) (set : CtrSet) : CtrSet :=
  let cb := ctrCounterUpdate rom set.c set.b
  let g0 := ctrG set.x[0] cb.1[0]
  let g1 := ctrG set.x[1] cb.1[1]
  let g2 := ctrG set.x[2] cb.1[2]
  let g3 := ctrG set.x[3] cb.1[3]
  let g4 := ctrG set.x[4] cb.1[4]
  let g5 := ctrG set.x[5] cb.1[5]
  let g6 := ctrG set.x[6] cb.1[6]
  let g7 := ctrG set.x[7] cb.1[7]
  { x := #v[g0 + rotl32 g7 16 + rotl32 g6 16,
            g1 + rotl32 g0 8 + g7,
            g2 + rotl32 g1 16 + rotl32 g0 16,
            g3 + rotl32 g2 8 + g1,
            g4 + rotl32 g3 16 + rotl32 g2 16,
            g5 + rotl32 g4 8 + g3,
            g6 + rotl32 g5 16 + rotl32 g4 16,
            g7 + rotl32 g6 8 + g5]
    c := cb.1
    b := cb.2 }

/-- The register set before the four key iterations (42_counter.md R129): sixteen key bytes as eight little-endian
16-bit words. -/
def ctrLoadKey (key : List Byte) : CtrSet :=
  let k (j : Nat) : BitVec 16 := byteAt key (2 * j + 1) ++ byteAt key (2 * j)
  { x := #v[k 1 ++ k 0, k 6 ++ k 5, k 3 ++ k 2, k 0 ++ k 7, k 5 ++ k 4, k 2 ++ k 1, k 7 ++ k 6, k 4 ++ k 3]
    c := #v[k 4 ++ k 5, k 1 ++ k 2, k 6 ++ k 7, k 3 ++ k 4, k 0 ++ k 1, k 5 ++ k 6, k 2 ++ k 3, k 7 ++ k 0]
    b := false }

/-- The counter post-processing of key set-up: `c[j] xor x[(j+4) mod 8]` (42_counter.md R129). -/
def ctrMixCounters (set : CtrSet) : CtrSet :=
  let x := set.x
  let cnt := set.c
  { set with
    c := #v[cnt[0] ^^^ x[4], cnt[1] ^^^ x[5], cnt[2] ^^^ x[6], cnt[3] ^^^ x[7], cnt[4] ^^^ x[0], cnt[5] ^^^ x[1], cnt[6] ^^^ x[2],
            cnt[7] ^^^ x[3]] }

/-- `CtrKeySetup` (42_counter.md R129): this is `master`. -/
def ctrKeySetup (rom : Rom) (key : List Byte) : CtrSet := ctrMixCounters ((ctrNextState rom)^[4] (ctrLoadKey key))

/-- The IV XOR-ed into the counters (42_counter.md R130). -/
def ctrLoadIv (master : CtrSet) (iv : List Byte) : CtrSet :=
  let i0 := le32 (byteAt iv 0) (byteAt iv 1) (byteAt iv 2) (byteAt iv 3)
  let i2 := le32 (byteAt iv 4) (byteAt iv 5) (byteAt iv 6) (byteAt iv 7)
  let i1 := (i0 >>> 16) ||| (i2 &&& 0xFFFF0000)
  let i3 := (i2 <<< 16) ||| (i0 &&& 0x0000FFFF)
  let cnt := master.c
  { master with
    c := #v[cnt[0] ^^^ i0, cnt[1] ^^^ i1, cnt[2] ^^^ i2, cnt[3] ^^^ i3, cnt[4] ^^^ i0, cnt[5] ^^^ i1, cnt[6] ^^^ i2, cnt[7] ^^^ i3] }

/-- `CtrIvSetup` (42_counter.md R130): this is `work`. -/
def ctrIvSetup (rom : Rom) (master : CtrSet) (iv : List Byte) : CtrSet := (ctrNextState rom)^[4] (ctrLoadIv master iv)

/-- `CtrInit` (42_counter.md R131). -/
def ctrInit (rom : Rom) (key iv : List Byte) : CtrState :=
  let master := ctrKeySetup rom key
  { master := master
    work := ctrIvSetup rom master iv
    buf := { ks := List.replicate 16 0, idx := 16 } }

/-- The four output words of a register set (42_counter.md R132). -/
def ctrOutput (x : Vector Word 8) : List Byte :=
  toLe32 (x[0] ^^^ (x[5] >>> 16) ^^^ (x[3] <<< 16)) ++
  toLe32 (x[2] ^^^ (x[7] >>> 16) ^^^ (x[5] <<< 16)) ++
  toLe32 (x[4] ^^^ (x[1] >>> 16) ^^^ (x[7] <<< 16)) ++
  toLe32 (x[6] ^^^ (x[3] >>> 16) ^^^ (x[1] <<< 16))

/-- `CtrGenerate` (42_counter.md R132): the clock first, then the output from the new state. -/
def ctrGenerate (rom : Rom) (st : CtrState) : CtrState :=
  let work := ctrNextState rom st.work
  { st with work := work, buf := { ks := ctrOutput work.x, idx := 0 } }

end Sys2Proof.Machine
end

