-- ==== Sys2Proof/Machine/Lfsr.lean ====
section
/-!
DEFINITION. The LFSR+FSM engine family, LF128 and LF256 (41_lfsr_fsm.md R106 to R121).
-/

namespace Sys2Proof.Machine

/-- `add31`, addition modulo `2^31 - 1` of two values in `0..2^31-1` (41_lfsr_fsm.md R110). -/
def add31 (a b : Word) : Word :=
  let c := a.toNat + b.toNat
  BitVec.ofNat 32 (c % 2 ^ 31 + c / 2 ^ 31)

/-- A loaded cell of LF128: key byte ‖ constant ‖ IV byte, 31 bits (41_lfsr_fsm.md R111). -/
def lfCell128 (k : Byte) (d : BitVec 15) (v : Byte) : Word := 0#1 ++ k ++ d ++ v

/-- A loaded cell of LF256: `a ‖ b ‖ c ‖ e` of widths 8, 7, 8, 8 (41_lfsr_fsm.md R112). -/
def lfCell256 (a : Byte) (b : BitVec 7) (c e : Byte) : Word := 0#1 ++ a ++ b ++ c ++ e

/-- Loading of LF128 (41_lfsr_fsm.md R111). -/
def lfLoad128 (rom : Rom) (key iv : List Byte) : Vector Word 16 :=
  let cell (i : Fin 16) : Word := lfCell128 (byteAt key i) rom.lfD128[i] (byteAt iv i)
  #v[cell 0, cell 1, cell 2, cell 3, cell 4, cell 5, cell 6, cell 7, cell 8, cell 9, cell 10, cell 11, cell 12, cell 13,
    cell 14, cell 15]

/-- Loading of LF256 (41_lfsr_fsm.md R112). Of IV bytes 17..24 only the low six bits are used. -/
def lfLoad256 (rom : Rom) (key iv : List Byte) : Vector Word 16 :=
  let k := byteAt key
  let w := byteAt iv
  let d (i : Fin 16) : BitVec 7 := rom.lfD256[i]
  let v (j : Nat) : BitVec 7 := (w (17 + j) &&& 0x3F).setWidth 7
  #v[lfCell256 (k 0) (d 0) (k 21) (k 16),
     lfCell256 (k 1) (d 1) (k 22) (k 17),
     lfCell256 (k 2) (d 2) (k 23) (k 18),
     lfCell256 (k 3) (d 3) (k 24) (k 19),
     lfCell256 (k 4) (d 4) (k 25) (k 20),
     lfCell256 (w 0) (d 5 ||| v 0) (k 5) (k 26),
     lfCell256 (w 1) (d 6 ||| v 1) (k 6) (k 27),
     lfCell256 (w 10) (d 7 ||| v 2) (k 7) (w 2),
     lfCell256 (k 8) (d 8 ||| v 3) (w 3) (w 11),
     lfCell256 (k 9) (d 9 ||| v 4) (w 12) (w 4),
     lfCell256 (w 5) (d 10 ||| v 5) (k 10) (k 28),
     lfCell256 (k 11) (d 11 ||| v 6) (w 6) (w 13),
     lfCell256 (k 12) (d 12 ||| v 7) (w 7) (w 14),
     lfCell256 (k 13) (d 13) (w 15) (w 8),
     lfCell256 (k 14) (d 14 ||| (k 31 >>> 4).setWidth 7) (w 16) (w 9),
     lfCell256 (k 15) (d 15 ||| (k 31 &&& 0x0F).setWidth 7) (k 30) (k 29)]

/-- `H(x) = x[30:15]` (41_lfsr_fsm.md R114). -/
def lfHigh (x : Word) : BitVec 16 := x.extractLsb' 15 16

/-- `L(x) = x[15:0]` (41_lfsr_fsm.md R114). -/
def lfLow (x : Word) : BitVec 16 := x.extractLsb' 0 16

/-- Bit-reorganisation (41_lfsr_fsm.md R114): the words `X0..X3`. -/
def lfReorganise (s : Vector Word 16) : Vector Word 4 :=
  #v[lfHigh s[15] ++ lfLow s[14], lfLow s[11] ++ lfHigh s[9], lfLow s[7] ++ lfHigh s[5], lfLow s[2] ++ lfHigh s[0]]

/-- `L1` (41_lfsr_fsm.md R116). -/
def lfL1 (x : Word) : Word := x ^^^ rotl32 x 2 ^^^ rotl32 x 10 ^^^ rotl32 x 18 ^^^ rotl32 x 24

/-- `L2` (41_lfsr_fsm.md R116). -/
def lfL2 (x : Word) : Word := x ^^^ rotl32 x 8 ^^^ rotl32 x 14 ^^^ rotl32 x 22 ^^^ rotl32 x 30

/-- The 32-bit S-box `S` (41_lfsr_fsm.md R117). -/
def lfS (rom : Rom) (x : Word) : Word :=
  be32 (byteEntry rom.lfS0 (byteOf x 0)) (byteEntry rom.lfS1 (byteOf x 1)) (byteEntry rom.lfS0 (byteOf x 2))
    (byteEntry rom.lfS1 (byteOf x 3))

/-- What one evaluation of `F` gives: its output and the new FSM registers. -/
structure LfFsm where
  w : Word
  r1 : Word
  r2 : Word
deriving DecidableEq, Repr

/-- The F-function (41_lfsr_fsm.md R115); `W`, `W1` and `W2` are computed from the old registers. -/
def lfF (rom : Rom) (x : Vector Word 4) (r1 r2 : Word) : LfFsm :=
  let w1 := r1 + x[1]
  let w2 := r2 ^^^ x[2]
  { w := (x[0] ^^^ r1) + r2
    r1 := lfS rom (lfL1 (lfLow w1 ++ w2.extractLsb' 16 16))
    r2 := lfS rom (lfL2 (lfLow w2 ++ w1.extractLsb' 16 16)) }

/-- The feedback value `FB` (41_lfsr_fsm.md R118). -/
def lfFeedback (s : Vector Word 16) : Word :=
  add31 (add31 (add31 (add31 (add31 s[0] (rotl31 s[0] 8)) (rotl31 s[4] 20)) (rotl31 s[10] 21)) (rotl31 s[13] 17))
    (rotl31 s[15] 15)

/-- `Shift` (41_lfsr_fsm.md R118). -/
def lfShift (s : Vector Word 16) (v : Word) : Vector Word 16 :=
  #v[s[1], s[2], s[3], s[4], s[5], s[6], s[7], s[8], s[9], s[10], s[11], s[12], s[13], s[14], s[15],
    if v = 0 then 0x7FFFFFFF else v]

/-- `LfsrInitMode` (41_lfsr_fsm.md R118). -/
def lfClockInit (s : Vector Word 16) (u : Word) : Vector Word 16 := lfShift s (add31 (lfFeedback s) u)

/-- `LfsrWorkMode` (41_lfsr_fsm.md R118). -/
def lfClockWork (s : Vector Word 16) : Vector Word 16 := lfShift s (lfFeedback s)

/-- One warm-up round (41_lfsr_fsm.md R119): the F output, shifted right by one, is fed back. -/
def lfWarmUp (rom : Rom) (st : LfState) : LfState :=
  let f := lfF rom (lfReorganise st.s) st.r1 st.r2
  { st with s := lfClockInit st.s (f.w >>> 1), r1 := f.r1, r2 := f.r2 }

/-- The discard step (41_lfsr_fsm.md R119): F once, its output unused, then one clock in work mode. -/
def lfDiscard (rom : Rom) (st : LfState) : LfState :=
  let f := lfF rom (lfReorganise st.s) st.r1 st.r2
  { st with s := lfClockWork st.s, r1 := f.r1, r2 := f.r2 }

/-- The state after the phase Init (41_lfsr_fsm.md R119): loaded cells, zero FSM registers, an empty buffer. -/
def lfLoaded (s : Vector Word 16) : LfState :=
  { s := s, r1 := 0, r2 := 0, iter := 0, buf := { ks := [0, 0, 0, 0], idx := 4 } }

/-- The phases Warm-up (32 rounds) and Discard (41_lfsr_fsm.md R107, R119). -/
def lfSetup (rom : Rom) (s : Vector Word 16) : LfState := lfDiscard rom ((lfWarmUp rom)^[32] (lfLoaded s))

/-- `LfInit` for LF128 (41_lfsr_fsm.md R119). -/
def lfInit128 (rom : Rom) (key iv : List Byte) : LfState := lfSetup rom (lfLoad128 rom key iv)

/-- `LfInit` for LF256 (41_lfsr_fsm.md R119). -/
def lfInit256 (rom : Rom) (key iv : List Byte) : LfState := lfSetup rom (lfLoad256 rom key iv)

/-- The keystream word of a state and the state after it (41_lfsr_fsm.md R120), the word limit apart. -/
def lfWord (rom : Rom) (st : LfState) : LfState :=
  let x := lfReorganise st.s
  let f := lfF rom x st.r1 st.r2
  { s := lfClockWork st.s
    r1 := f.r1
    r2 := f.r2
    iter := st.iter + 1
    buf := { ks := toBe32 (f.w ^^^ x[3]), idx := 0 } }

/-- `LfGenerate` (41_lfsr_fsm.md R120): `none` when the word limit is reached, before any change. -/
def lfGenerate (rom : Rom) (max : Nat) (st : LfState) : Option LfState :=
  if max ≤ st.iter then none else some (lfWord rom st)

end Sys2Proof.Machine
end

