-- ==== Sys2Proof/Machine/Operands.lean ====
section
/-!
DEFINITION. Every operand form of the commands: the key and the IV of INIT with the check of their lengths
(20_memory.md R52, 40_contract.md R85), the three argument registers of PROCESS with their range check (20_memory.md
R53, R54), and the immediates (30_encoding.md R74), which are fields of `Instr`.
-/

namespace Sys2Proof.Machine

/-- Accepted key lengths in bytes (00_scope.md R12, 40_contract.md R85). -/
def keyLengthOk (eng : Engine) (n : Nat) : Bool :=
  match eng with
  | .lf128 => n == 16
  | .lf256 => n == 32
  | .ctr => n == 16
  | .srp => decide (1 ≤ n) && decide (n ≤ 32)
  | .blk => n == 16 || n == 24 || n == 32

/-- Accepted IV lengths in bytes (00_scope.md R12, 40_contract.md R85); BLK takes no IV. -/
def ivLengthOk (eng : Engine) (n : Nat) : Bool :=
  match eng with
  | .lf128 => n == 16
  | .lf256 => n == 25
  | .ctr => n == 8
  | .srp => decide (n ≤ 16)
  | .blk => false

/-- `ConfigCheck` (40_contract.md R85): the first failing check, in the order of that rule. -/
def configCheck (eng : Engine) (a : InitOperands) : Option ConfigError :=
  if a.hasKey = false then some .noKey
  else if keyLengthOk eng a.klen.toNat = false then some .keyLen
  else if eng = .blk then (if a.hasIv then some .ivLen else none)
  else if a.hasIv = false then some .noIv
  else if ivLengthOk eng a.ivlen.toNat = false then some .ivLen
  else none

/-- `key[i] = KEYBUF[i]` for `i` in `0..KLEN-1` (20_memory.md R52). -/
def State.keyBytes (s : State) (a : InitOperands) : List Byte := s.readBytes .keybuf 0 a.klen.toNat

/-- `iv[i] = IVBUF[i]` for `i` in `0..IVLEN-1` (20_memory.md R52). -/
def State.ivBytes (s : State) (a : InitOperands) : List Byte := s.readBytes .ivbuf 0 a.ivlen.toNat

/-- `inOff = ARG0` (20_memory.md R53), an unsigned number that never wraps (R54). -/
def State.inOff (s : State) : Nat := s.arg0.toNat

/-- `len = ARG1` (20_memory.md R53). -/
def State.len (s : State) : Nat := s.arg1.toNat

/-- `outOff = ARG2` (20_memory.md R53). -/
def State.outOff (s : State) : Nat := s.arg2.toNat

/-- The range check of PROCESS passes (20_memory.md R54); the sums are natural numbers. -/
def State.rangesFit (s : State) : Bool :=
  decide (s.inOff + s.len ≤ s.cfg.ibufSize) && decide (s.outOff + s.len ≤ s.cfg.obufSize)

/-- The input bytes of PROCESS (20_memory.md R53). -/
def State.inputBytes (s : State) : List Byte := s.readBytes .ibuf s.inOff s.len

end Sys2Proof.Machine
end

