-- ==== Sys2Proof/Machine/Serpent.lean ====
section
/-!
DEFINITION. The Serpent-derived engine SRP (43_serpent_derived.md R134 to R146).
-/

namespace Sys2Proof.Machine

/-- The output nibble of S-box `n` at bit position `i` of four words, `x0` the least significant input bit
(43_serpent_derived.md R138). -/
def srpNibble (rom : Rom) (n : Fin 8) (x : Vector Word 4) (i : Nat) : BitVec 4 :=
  let input : BitVec 4 :=
    BitVec.ofBool (x[3].getLsbD i) ++ BitVec.ofBool (x[2].getLsbD i) ++ BitVec.ofBool (x[1].getLsbD i)
      ++ BitVec.ofBool (x[0].getLsbD i)
  rom.srpSb[n][input.toNat]

/-- The number whose low `n` bits are `f 0 .. f (n-1)`. -/
def gatherBits (f : Nat → Bool) : Nat → Nat
  | 0 => 0
  | n + 1 => gatherBits f n + if f n then 2 ^ n else 0

/-- `SBox(n, (x0, x1, x2, x3))`, bitwise in parallel (43_serpent_derived.md R138). -/
def srpSBox (rom : Rom) (n : Fin 8) (x : Vector Word 4) : Vector Word 4 :=
  let y (j : Nat) : Word := BitVec.ofNat 32 (gatherBits (fun i => (srpNibble rom n x i).getLsbD j) 32)
  #v[y 0, y 1, y 2, y 3]

/-- The linear transform `LT` (43_serpent_derived.md R139). -/
def srpLT (x : Vector Word 4) : Vector Word 4 :=
  let x0 := rotl32 x[0] 13
  let x2 := rotl32 x[2] 3
  let x1 := x[1] ^^^ x0 ^^^ x2
  let x3 := x[3] ^^^ x2 ^^^ (x0 <<< 3)
  let x1 := rotl32 x1 1
  let x3 := rotl32 x3 7
  let x0 := x0 ^^^ x1 ^^^ x3
  let x2 := x2 ^^^ x3 ^^^ (x1 <<< 7)
  #v[rotl32 x0 5, x1, rotl32 x2 22, x3]

/-- `MulA`, multiplication by α (43_serpent_derived.md R140). -/
def srpMulA (rom : Rom) (x : Word) : Word := (x <<< 8) ^^^ wordEntry rom.srpMula (x.extractLsb' 24 8)

/-- `DivA`, division by α (43_serpent_derived.md R140). -/
def srpDivA (rom : Rom) (x : Word) : Word := (x >>> 8) ^^^ wordEntry rom.srpDiva (x.extractLsb' 0 8)

/-- The padded key (43_serpent_derived.md R141): below 32 bytes, one byte `0x01` and then zeros. -/
def srpPadKey (key : List Byte) : List Byte :=
  if key.length < 32 then key ++ [1] ++ List.replicate (31 - key.length) 0 else key

/-- The words `w[i+8], w[i+9], ..` of the key recurrence, `n` of them, from the eight words before them
(43_serpent_derived.md R142). -/
def srpKeyWords (rom : Rom) : (n i : Nat) → Vector Word 8 → List Word
  | 0, _, _ => []
  | n + 1, i, w =>
    let new := rotl32 (w[0] ^^^ w[3] ^^^ w[5] ^^^ w[7] ^^^ rom.srpPhi ^^^ BitVec.ofNat 32 i) 11
    new :: srpKeyWords rom n (i + 1) #v[w[1], w[2], w[3], w[4], w[5], w[6], w[7], new]

/-- Four consecutive words of a list, from index `i`. -/
def quadAt (ws : List Word) (i : Nat) : Vector Word 4 := #v[wordAt ws i, wordAt ws (i + 1), wordAt ws (i + 2), wordAt ws (i + 3)]

/-- `SrpKeySchedule` (43_serpent_derived.md R142): 100 words through S-boxes 3, 2, 1, 0, 7, 6, 5, 4, 3, .. -/
def srpKeySchedule (rom : Rom) (key : List Byte) : List Word :=
  let p := byteAt (srpPadKey key)
  let word (i : Nat) : Word := le32 (p (4 * i)) (p (4 * i + 1)) (p (4 * i + 2)) (p (4 * i + 3))
  let w := srpKeyWords rom 100 0 #v[word 0, word 1, word 2, word 3, word 4, word 5, word 6, word 7]
  (List.range 25).flatMap fun g => (srpSBox rom (Fin.ofNat 8 (35 - g)) (quadAt w (4 * g))).toList

/-- One round `r` of IV set-up: subkey block, S-box `r mod 8`, linear transform (43_serpent_derived.md R143). -/
def srpRound (rom : Rom) (sk : List Word) (r : Nat) (x : Vector Word 4) : Vector Word 4 :=
  srpLT (srpSBox rom (Fin.ofNat 8 r) (quadXor x (quadAt sk (4 * r))))

/-- Rounds `r, r+1, ..`, `n` of them (43_serpent_derived.md R143). -/
def srpRounds (rom : Rom) (sk : List Word) : (n r : Nat) → Vector Word 4 → Vector Word 4
  | 0, _, x => x
  | n + 1, r, x => srpRounds rom sk n (r + 1) (srpRound rom sk r x)

/-- The zero-extended IV as four words (43_serpent_derived.md R143). -/
def srpIvWords (iv : List Byte) : Vector Word 4 :=
  let q := byteAt (iv ++ List.replicate (16 - iv.length) 0)
  #v[le32 (q 0) (q 1) (q 2) (q 3), le32 (q 4) (q 5) (q 6) (q 7), le32 (q 8) (q 9) (q 10) (q 11),
     le32 (q 12) (q 13) (q 14) (q 15)]

/-- `SrpInit` (43_serpent_derived.md R144), with `SrpIvSetup` (R143): the values after 12, 18 and 24 rounds fill the
LFSR and the FSM registers. -/
def srpInit (rom : Rom) (key iv : List Byte) : SrpState :=
  let sk := srpKeySchedule rom key
  let y12 := srpRounds rom sk 12 0 (srpIvWords iv)
  let y18 := srpRounds rom sk 6 12 y12
  let y24 := quadXor (srpRounds rom sk 6 18 y18) (quadAt sk 96)
  { sk := sk
    lfsr := #v[y24[3], y24[2], y24[1], y24[0], y18[1], y18[3], y12[3], y12[2], y12[1], y12[0]]
    r1 := y18[0]
    r2 := y18[2]
    buf := { ks := List.replicate 80 0, idx := 80 } }

/-- What one FSM and LFSR step gives: the registers after it, the intermediate word `f`, the dropped word `d`. -/
structure SrpStepResult where
  lfsr : Vector Word 10
  r1 : Word
  r2 : Word
  f : Word
  d : Word
deriving DecidableEq, Repr

/-- `SrpStep` (43_serpent_derived.md R145). -/
def srpStep (rom : Rom) (s : Vector Word 10) (r1 r2 : Word) : SrpStepResult :=
  let t := if r1.getLsbD 0 then s[1] ^^^ s[8] else s[1]
  let nr1 := r2 + t
  let nr2 := rotl32 (r1 * 0x54655307) 7
  { lfsr := #v[s[1], s[2], s[3], s[4], s[5], s[6], s[7], s[8], s[9], s[9] ^^^ srpDivA rom s[3] ^^^ srpMulA rom s[0]]
    r1 := nr1
    r2 := nr2
    f := (s[9] + nr1) ^^^ nr2
    d := s[0] }

/-- One group of four steps (43_serpent_derived.md R146): the registers after it and its 16 keystream bytes. -/
def srpGroup (rom : Rom) (lfsr : Vector Word 10) (r1 r2 : Word) : SrpStepResult × List Byte :=
  let a := srpStep rom lfsr r1 r2
  let b := srpStep rom a.lfsr a.r1 a.r2
  let c := srpStep rom b.lfsr b.r1 b.r2
  let d := srpStep rom c.lfsr c.r1 c.r2
  let z := srpSBox rom 2 #v[a.f, b.f, c.f, d.f]
  (d, toLe32 (z[0] ^^^ a.d) ++ toLe32 (z[1] ^^^ b.d) ++ toLe32 (z[2] ^^^ c.d) ++ toLe32 (z[3] ^^^ d.d))

/-- `n` groups: the registers after them and their bytes in order (43_serpent_derived.md R146). -/
def srpGroups (rom : Rom) : (n : Nat) → (lfsr : Vector Word 10) → (r1 r2 : Word) →
    (Vector Word 10 × Word × Word) × List Byte
  | 0, lfsr, r1, r2 => ((lfsr, r1, r2), [])
  | n + 1, lfsr, r1, r2 =>
    let g := srpGroup rom lfsr r1 r2
    let rest := srpGroups rom n g.1.lfsr g.1.r1 g.1.r2
    (rest.1, g.2 ++ rest.2)

/-- `SrpGenerate` (43_serpent_derived.md R146): five groups fill the 80-byte buffer. -/
def srpGenerate (rom : Rom) (st : SrpState) : SrpState :=
  let g := srpGroups rom 5 st.lfsr st.r1 st.r2
  { st with lfsr := g.1.1, r1 := g.1.2.1, r2 := g.1.2.2, buf := { ks := g.2, idx := 0 } }

end Sys2Proof.Machine
end

