-- ==== Sys2Proof/Machine/Init.lean ====
section
/-!
DEFINITION. INIT on the five engines (40_contract.md R84 to R88): key and IV set-up, once per INIT (R88).
-/

namespace Sys2Proof.Machine

/-- INIT of engine `eng` on context `c` (40_contract.md R84). `setup` is the engine's own part; the new instance's
reset image is a copy of its CipherState (10_state.md R33). On a READY context the old instance is lost, whether the
check passes or not (40_contract.md R87). -/
def initCommand (eng : Engine) (c : BitVec 4) (a : InitOperands) (s : State) (setup : State → CipherState) : Out :=
  onContext (initOf eng c a) c s fun s x =>
    match x with
    | .dead _ => s.raise (.usage .deadCtx)
    | .empty | .ready _ _ =>
      match configCheck eng a with
      | some e => s.raise (.terminal (.config e))
      | none => (s.setContext c (.ready (setup s) (setup s))).succeed 0

/-- The CipherState INIT.LF128 installs (41_lfsr_fsm.md R119). -/
def setupLf128 (a : InitOperands) (s : State) : CipherState :=
  .stream (.lf128 (lfInit128 s.cfg.rom (s.keyBytes a) (s.ivBytes a)))

/-- The CipherState INIT.LF256 installs (41_lfsr_fsm.md R119). -/
def setupLf256 (a : InitOperands) (s : State) : CipherState :=
  .stream (.lf256 (lfInit256 s.cfg.rom (s.keyBytes a) (s.ivBytes a)))

/-- The CipherState INIT.CTR installs (42_counter.md R131). -/
def setupCtr (a : InitOperands) (s : State) : CipherState :=
  .stream (.ctr (ctrInit s.cfg.rom (s.keyBytes a) (s.ivBytes a)))

/-- The CipherState INIT.SRP installs (43_serpent_derived.md R144). -/
def setupSrp (a : InitOperands) (s : State) : CipherState :=
  .stream (.srp (srpInit s.cfg.rom (s.keyBytes a) (s.ivBytes a)))

/-- The CipherState INIT.BLK installs (45_block_cipher.md R158); `DIR` is stored (40_contract.md R86). -/
def setupBlk (a : InitOperands) (s : State) : CipherState := .blk (blkInit s.cfg.rom (s.keyBytes a) a.dir)

/-- INIT.LF128 (40_contract.md R84). -/
def execInitLf128 (c : BitVec 4) (a : InitOperands) (s : State) : Out := initCommand .lf128 c a s (setupLf128 a)

/-- INIT.LF256 (40_contract.md R84). -/
def execInitLf256 (c : BitVec 4) (a : InitOperands) (s : State) : Out := initCommand .lf256 c a s (setupLf256 a)

/-- INIT.CTR (40_contract.md R84). -/
def execInitCtr (c : BitVec 4) (a : InitOperands) (s : State) : Out := initCommand .ctr c a s (setupCtr a)

/-- INIT.SRP (40_contract.md R84). -/
def execInitSrp (c : BitVec 4) (a : InitOperands) (s : State) : Out := initCommand .srp c a s (setupSrp a)

/-- INIT.BLK (40_contract.md R84). -/
def execInitBlk (c : BitVec 4) (a : InitOperands) (s : State) : Out := initCommand .blk c a s (setupBlk a)

end Sys2Proof.Machine
end

