-- ==== Sys2Proof/Machine/Lifecycle.lean ====
section
/-!
DEFINITION. RESET, SNAPSHOT, RESTORE and DROP (40_contract.md R94 to R98). Copies are values, so a context and a slot
never share a mutable part (10_state.md R23).
-/

namespace Sys2Proof.Machine

/-- RESET (40_contract.md R94): the context returns to its reset image. -/
def execReset (c : BitVec 4) (s : State) : Out :=
  onContext (.reset c) c s fun s x =>
    needReady s x fun _ rst => (s.setContext c (.ready rst rst)).succeed 0

/-- SNAPSHOT (40_contract.md R96): the context's CipherState and reset image into the slot, replacing what it held. -/
def execSnapshot (c k : BitVec 4) (s : State) : Out :=
  onContext (.snapshot c k) c s fun s x =>
    needSlot s k <|
      needReady s x fun cur rst => (s.setSnapshot k (some { cur := cur, rst := rst })).succeed 0

/-- Whether RESTORE refuses a context because its engine is not the snapshot's (40_contract.md R97). -/
def engineDiffers (x : Context) (snap : Snapshot) : Bool :=
  match x with
  | .ready cur _ => decide (cur.engine ≠ snap.cur.engine)
  | .empty | .dead _ => false

/-- RESTORE (40_contract.md R97): the slot's CipherState and reset image into the context. -/
def execRestore (c k : BitVec 4) (s : State) : Out :=
  onContext (.restore c k) c s fun s x =>
    needSlot s k <|
      match x with
      | .dead _ => s.raise (.usage .deadCtx)
      | .empty | .ready _ _ =>
        match s.snapshotAt k with
        | none => s.raise (.usage .snapEmpty)
        | some snap =>
          if engineDiffers x snap then s.raise (.usage .snapMismatch)
          else (s.setContext c (.ready snap.cur snap.rst)).succeed 0

/-- DROP (40_contract.md R98): the context becomes EMPTY, whatever it was. -/
def execDrop (c : BitVec 4) (s : State) : Out :=
  onContext (.drop c) c s fun s _ => (s.setContext c .empty).succeed 0

end Sys2Proof.Machine
end

