-- ==== Sys2Proof/Machine/Transform.lean ====
section
/-!
DEFINITION. PROCESS and RETBYTE (40_contract.md R89 to R93): the logical keystream of a stream context, and the block
transform.
-/

namespace Sys2Proof.Machine

/-- `ks[idx]`, the next buffered byte (10_state.md R31). -/
def KeystreamBuffer.head (b : KeystreamBuffer) : Byte := byteAt b.ks b.idx

/-- The buffer with its cursor one further (40_contract.md R90). -/
def KeystreamBuffer.advance (b : KeystreamBuffer) : KeystreamBuffer := { b with idx := b.idx + 1 }

/-- The first part of `NextByte` on an LF engine: generate when the buffer is used up (40_contract.md R90). -/
def lfRefill (rom : Rom) (max : Nat) (st : LfState) : Option LfState :=
  if st.buf.idx = 4 then lfGenerate rom max st else some st

/-- The first part of `NextByte` on CTR (40_contract.md R90). -/
def ctrRefill (rom : Rom) (st : CtrState) : CtrState := if st.buf.idx = 16 then ctrGenerate rom st else st

/-- The first part of `NextByte` on SRP (40_contract.md R90). -/
def srpRefill (rom : Rom) (st : SrpState) : SrpState := if st.buf.idx = 80 then srpGenerate rom st else st

/-- `NextByte` (40_contract.md R90): the next keystream byte and the CipherState after it; `none` when an LF engine
needs a word beyond its limit (40_contract.md R92). Generation is lazy. -/
def nextByte (cfg : Config) : StreamState → Option (Byte × StreamState)
  | .lf128 st => (lfRefill cfg.rom cfg.lfMax128 st).map fun t => (t.buf.head, .lf128 { t with buf := t.buf.advance })
  | .lf256 st => (lfRefill cfg.rom cfg.lfMax256 st).map fun t => (t.buf.head, .lf256 { t with buf := t.buf.advance })
  | .ctr st =>
    let t := ctrRefill cfg.rom st
    some (t.buf.head, .ctr { t with buf := t.buf.advance })
  | .srp st =>
    let t := srpRefill cfg.rom st
    some (t.buf.head, .srp { t with buf := t.buf.advance })

/-- The next `n` keystream bytes and the CipherState after them, `none` if the word limit is met on the way
(40_contract.md R89, R90, R92). -/
def takeBytes (cfg : Config) : Nat → StreamState → Option (List Byte × StreamState)
  | 0, st => some ([], st)
  | n + 1, st =>
    match nextByte cfg st with
    | none => none
    | some (b, st') =>
      match takeBytes cfg n st' with
      | none => none
      | some (bs, st'') => some (b :: bs, st'')

/-- `input xor keystream`, byte by byte (40_contract.md R89). -/
def xorBytes (input ks : List Byte) : List Byte := List.zipWith (fun a b => a ^^^ b) input ks

/-- The output of PROCESS on BLK: each 16-byte block of the input transformed on its own (40_contract.md R89, R91). -/
def blkOutput (s : State) (st : BlkState) : List Byte :=
  (List.range (s.len / 16)).flatMap fun q => blkCrypt s.cfg.rom st (s.readBytes .ibuf (s.inOff + 16 * q) 16)

/-- What a PROCESS that met the word limit leaves in its range of OBUF: free values, new ones at every such event
(40_contract.md R92, 93 U3, log 2). Every byte outside the range is unchanged. -/
def State.leaveResidue (s : State) : State :=
  { s.writeBytes .obuf s.outOff ((List.range s.len).map fun i => Config.residueByte s.freeCount (s.outOff + i)) with
    freeCount := s.freeCount + 1 }

/-- PROCESS on a READY context whose ranges fit, stream engine (40_contract.md R89, R92). -/
def processStream (c : BitVec 4) (s : State) (st : StreamState) (rst : CipherState) : Out :=
  match takeBytes s.cfg s.len st with
  | none => s.leaveResidue.raise (.terminal (.exhausted .wordLimit))
  | some (ks, st') =>
    ((s.writeBytes .obuf s.outOff (xorBytes s.inputBytes ks)).setContext c (.ready (.stream st') rst)).succeed s.arg1

/-- PROCESS on a READY context whose ranges fit, BLK (40_contract.md R89, R91): the context does not change. -/
def processBlk (s : State) (st : BlkState) : Out :=
  if s.len % 16 = 0 then (s.writeBytes .obuf s.outOff (blkOutput s st)).succeed s.arg1
  else s.raise (.usage .bufShort)

/-- PROCESS (40_contract.md R89). -/
def execProcess (c : BitVec 4) (s : State) : Out :=
  onContext (.process c) c s fun s x =>
    needReady s x fun cur rst =>
      if s.rangesFit then
        match cur with
        | .stream st => processStream c s st rst
        | .blk st => processBlk s st
      else s.raise (.usage .bufShort)

/-- RETBYTE (40_contract.md R93): the byte XOR the next keystream byte, in RESULT. -/
def execRetbyte (c : BitVec 4) (byte : Byte) (s : State) : Out :=
  onContext (.retbyte c byte) c s fun s x =>
    needReady s x fun cur rst =>
      match cur with
      | .blk _ => s.raise (.usage .noRetbyte)
      | .stream st =>
        match nextByte s.cfg st with
        | none => s.raise (.terminal (.exhausted .wordLimit))
        | some (kb, st') => (s.setContext c (.ready (.stream st') rst)).succeed ((byte ^^^ kb).setWidth 32)

end Sys2Proof.Machine
end

