-- ==== Sys2Proof/Machine/Dispatch.lean ====
section
/-!
DEFINITION. One arm per command (30_encoding.md R78), each one direct call of its meaning. A command's meaning is the
whole of 40_contract.md R82 for it, from `CMD <- cw` to STATUS and RESULT.
-/

namespace Sys2Proof.Machine

def exec (i : Instr) (s : State) : Host.Outcome State Fault Refusal :=
  match i with
  | .initLf128 c a => Sys2Proof.Machine.execInitLf128 c a s
  | .initLf256 c a => Sys2Proof.Machine.execInitLf256 c a s
  | .initCtr c a => Sys2Proof.Machine.execInitCtr c a s
  | .initSrp c a => Sys2Proof.Machine.execInitSrp c a s
  | .initBlk c a => Sys2Proof.Machine.execInitBlk c a s
  | .process c => Sys2Proof.Machine.execProcess c s
  | .retbyte c b => Sys2Proof.Machine.execRetbyte c b s
  | .reset c => Sys2Proof.Machine.execReset c s
  | .snapshot c k => Sys2Proof.Machine.execSnapshot c k s
  | .restore c k => Sys2Proof.Machine.execRestore c k s
  | .drop c => Sys2Proof.Machine.execDrop c s

end Sys2Proof.Machine
end

