-- ==== Sys2Proof/Machine/Command.lean ====
section
/-!
DEFINITION. Serving one host access: a write to `CMD` executes the command word (10_state.md R38, 40_contract.md R82).
-/

namespace Sys2Proof.Machine

/-- An illegal command word (30_encoding.md R79): USAGE/ILLEGAL_CMD with the OP and CTX bits of the word as written,
RESULT 0, nothing else changes. -/
def illegalCommand (cw : Word) (s : State) : Out := (s.latch cw).raise (.usage .illegalCmd)

/-- A host write of `cw` to `CMD` (10_state.md R38): decode, then the command (40_contract.md R82). -/
def runCommand (cw : Word) (s : State) : Out :=
  match decode cw with
  | .ok i => exec i s
  | .error _ => illegalCommand cw s

/-- One host access (20_memory.md R51, R61): a read returns a value and changes nothing of CORE; a write to `CMD` runs
a command; any other write acts as Machine/Bus.lean says. -/
def serve (a : HostAccess) (s : State) : Out :=
  match a with
  | .read addr size =>
    match locate s.cfg addr size with
    | .at t => .next { s with busData := s.readTarget t size }
    | .outside => .fault .outsideRegion
    | .refused r => .refused r
  | .write addr size v =>
    match locate s.cfg addr size with
    | .at (.reg .cmd) => runCommand v s
    | .at t => .next (s.writeTarget t size v)
    | .outside => .fault .outsideRegion
    | .refused r => .refused r

/-- The host write that makes CORE execute the command word `cw` (10_state.md R38). -/
def commandWrite (cfg : Config) (cw : Word) : HostAccess := .write cfg.coreBase 4 cw

end Sys2Proof.Machine
end

