-- ==== Sys2Proof/Machine/Step.lean ====
section
/-!
DEFINITION. One step of CORE (10_state.md R19; 20_memory.md R64): the oldest host access not yet served is taken from
the queue and served. With none pending nothing acts, and the state stays as it is (log 4).
-/

namespace Sys2Proof.Machine

def step (s : State) : Host.Outcome State Fault Refusal :=
  match s.pending with
  | [] => .next s
  | a :: rest => serve a { s with pending := rest }

/-- The state whose very next step runs the command word `w`: a host write of it to `CMD` stands first in the queue
(log 4). CORE fetches no instructions (10_state.md R35, 30_encoding.md R70); nothing else changes. -/
def State.withFetchWord (s : State) (nbits w : Nat) : State :=
  { s with pending := commandWrite s.cfg (BitVec.ofNat 32 (w % 2 ^ nbits)) :: s.pending }

end Sys2Proof.Machine
end

