-- ==== Sys2Proof/Safety.lean ====
section
/-!
DEFINITION. What counts as a state CORE can be in (`State.Inv`), in the terms the statements use: the ranges and lengths
that 10_state.md R25 to R34 give the parts of a CipherState, the canonical form of the memories, and the fields of
STATUS (10_state.md R40, 60_exceptions.md R181).
-/

namespace Sys2Proof.Machine

/-- A buffer of `n` bytes with its cursor in `0..n` (10_state.md R30, R31). -/
structure KeystreamBuffer.Wf (n : Nat) (b : KeystreamBuffer) : Prop where
  ks_length : b.ks.length = n
  idx_le : b.idx ≤ n

/-- 10_state.md R25: the counter within its limit, every LFSR cell in `1..2^31-1`. -/
structure LfState.Wf (max : Nat) (st : LfState) : Prop where
  iter_le : st.iter ≤ max
  buf_wf : st.buf.Wf 4
  cell_range : ∀ i : Fin 16, 0 < st.s[i].toNat ∧ st.s[i].toNat < 2 ^ 31

/-- 10_state.md R27. -/
structure SrpState.Wf (st : SrpState) : Prop where
  sk_length : st.sk.length = 100
  buf_wf : st.buf.Wf 80

/-- 10_state.md R28. -/
structure BlkState.Wf (st : BlkState) : Prop where
  n_ok : st.n = 4 ∨ st.n = 6 ∨ st.n = 8
  r_eq : st.r = 8 + st.n
  ke_length : st.ke.length = st.r + 1
  kd_length : st.kd.length = st.r + 1

/-- 10_state.md R25 to R28. -/
def CipherState.Wf (cfg : Config) : CipherState → Prop
  | .stream (.lf128 st) => st.Wf cfg.lfMax128
  | .stream (.lf256 st) => st.Wf cfg.lfMax256
  | .stream (.ctr st) => st.buf.Wf 16
  | .stream (.srp st) => st.Wf
  | .blk st => st.Wf

/-- The KeySchedule of a CipherState (10_state.md R29): `master` of CTR, `sk` of SRP, `N`, `R`, `ke`, `kd` of BLK. -/
inductive KeySchedule where
  | none
  | ctr (master : CtrSet)
  | srp (sk : List Word)
  | blk (n r : Nat) (ke kd : List (Vector Word 4))
deriving DecidableEq, Repr

/-- 10_state.md R29. -/
def CipherState.keySchedule : CipherState → KeySchedule
  | .stream (.lf128 _) => .none
  | .stream (.lf256 _) => .none
  | .stream (.ctr st) => .ctr st.master
  | .stream (.srp st) => .srp st.sk
  | .blk st => .blk st.n st.r st.ke st.kd

/-- `n` bytes, all used: what INIT leaves in a buffer (10_state.md R31). -/
def emptyBuffer (n : Nat) : KeystreamBuffer := { ks := List.replicate n 0, idx := n }

/-- The buffer is empty and no keystream word has been counted, as at the end of INIT (10_state.md R31, R32). -/
def CipherState.Fresh : CipherState → Prop
  | .stream (.lf128 st) => st.buf = emptyBuffer 4 ∧ st.iter = 0
  | .stream (.lf256 st) => st.buf = emptyBuffer 4 ∧ st.iter = 0
  | .stream (.ctr st) => st.buf = emptyBuffer 16
  | .stream (.srp st) => st.buf = emptyBuffer 80
  | .blk _ => True

/-- An instance of one engine with its reset image: what a READY context and a used slot hold (10_state.md R21, R33,
R34). The KeySchedule is that of the reset image (R29); a BLK instance never leaves its reset image (40_contract.md
R94, 45_block_cipher.md R161). -/
structure InstanceWf (cfg : Config) (cur rst : CipherState) : Prop where
  cur_wf : cur.Wf cfg
  rst_wf : rst.Wf cfg
  rst_fresh : rst.Fresh
  same_engine : cur.engine = rst.engine
  same_keys : cur.keySchedule = rst.keySchedule
  blk_at_image : cur.engine = .blk → cur = rst

/-- 10_state.md R21. -/
def Context.Wf (cfg : Config) : Context → Prop
  | .empty => True
  | .ready cur rst => InstanceWf cfg cur rst
  | .dead _ => True

/-- The class field of a STATUS word (10_state.md R40). -/
def statusClass (w : Word) : BitVec 2 := w.extractLsb' 0 2

/-- The code field of a STATUS word (10_state.md R40). -/
def statusCode (w : Word) : BitVec 4 := w.extractLsb' 4 4

/-- The pairs of class and code that CORE produces (60_exceptions.md R178 to R181). -/
def LegalOutcome (cls : BitVec 2) (code : BitVec 4) : Prop :=
  (cls = 0 ∧ code = 0) ∨ (cls = 1 ∧ 1 ≤ code.toNat ∧ code.toNat ≤ 4) ∨ (cls = 2 ∧ 1 ≤ code.toNat ∧ code.toNat ≤ 8)
    ∨ (cls = 3 ∧ code = 1)

/-- The states CORE can be in. -/
structure State.Inv (s : State) : Prop where
  /-- 00_scope.md R13. -/
  cfg_inRange : s.cfg.InRange
  /-- 41_lfsr_fsm.md R111, R112. -/
  loading_nonzero : LfConstantsNonzero s.cfg.rom
  /-- 10_state.md R20. -/
  ctx_length : s.ctx.length = s.cfg.nctx
  /-- 10_state.md R20. -/
  slot_length : s.slot.length = s.cfg.nsnap
  ctx_wf : ∀ x ∈ s.ctx, x.Wf s.cfg
  slot_wf : ∀ snap, some snap ∈ s.slot → InstanceWf s.cfg snap.cur snap.rst
  /-- The memories keep their canonical form. -/
  mem_wf : ∀ buf, (s.mem buf).wf
  /-- No byte lies outside its memory (10_state.md R45). -/
  mem_bound : ∀ buf, ∀ cell ∈ s.mem buf, cell.1 < s.cfg.size buf
  /-- 10_state.md R40: reserved fields read 0. -/
  status_reserved : s.status.extractLsb' 2 2 = 0#2 ∧ s.status.extractLsb' 16 16 = 0#16
  /-- 60_exceptions.md R181. -/
  status_legal : LegalOutcome (statusClass s.status) (statusCode s.status)

/-- The state after command `i` when it succeeds with `result` and changes nothing else (40_contract.md R82). -/
def State.done (s : State) (i : Instr) (result : Word) : State :=
  (s.latch (encode i)).report (okStatus (encode i)) result

/-- The state after command `i` when it raises usage error `e` (60_exceptions.md R179, R182): nothing but CMD, STATUS
and RESULT differs. -/
def State.refusedWith (s : State) (i : Instr) (e : UsageError) : State :=
  (s.latch (encode i)).report (errorStatus (encode i) (.usage e)) 0

/-- The state after command `i` on context `c` when it raises terminal error `e` (60_exceptions.md R178, R180, R182): as
for a usage error, and the context is DEAD. -/
def State.killedWith (s : State) (i : Instr) (c : BitVec 4) (e : TerminalError) : State :=
  ((s.latch (encode i)).setContext c (.dead e)).report (errorStatus (encode i) (.terminal e)) 0

/-- The context index names an existing context (30_encoding.md R71). -/
def State.hasContext (s : State) (c : BitVec 4) : Prop := c.toNat < s.cfg.nctx

/-- The slot index names an existing slot (30_encoding.md R72). -/
def State.hasSlot (s : State) (k : BitVec 4) : Prop := k.toNat < s.cfg.nsnap

/-- A context is not DEAD. -/
def Context.Alive (x : Context) : Prop := ∀ e, x ≠ .dead e

/-- The operands of PROCESS as the host sets them (10_state.md R39). -/
def State.withArgs (s : State) (inOff len outOff : Word) : State := { s with arg0 := inOff, arg1 := len, arg2 := outOff }

/-- The key lengths in bytes an engine accepts (40_contract.md R85). -/
def acceptedKeyLengths : Engine → List Nat
  | .lf128 => [16]
  | .lf256 => [32]
  | .ctr => [16]
  | .srp => List.range' 1 32
  | .blk => [16, 24, 32]

/-- The IV lengths in bytes an engine accepts (40_contract.md R85). -/
def acceptedIvLengths : Engine → List Nat
  | .lf128 => [16]
  | .lf256 => [25]
  | .ctr => [8]
  | .srp => List.range 17
  | .blk => []

/-- Context `c` of one state and context `d` of another hold equal instances, and everything else a command reads is
the same in both (40_contract.md R101, R105). `OBUF` and the model's counter of free values (log 3) are not among what a
command reads. -/
structure Twins (c d : BitVec 4) (s t : State) : Prop where
  cfg_eq : s.cfg = t.cfg
  here : s.hasContext c ∧ c.toNat < s.ctx.length
  there : t.hasContext d ∧ d.toNat < t.ctx.length
  context_eq : s.context c = t.context d
  slot_eq : s.slot = t.slot
  mem_eq : ∀ buf, buf ≠ .obuf → s.mem buf = t.mem buf
  args_eq : s.arg0 = t.arg0 ∧ s.arg1 = t.arg1 ∧ s.arg2 = t.arg2

end Sys2Proof.Machine

namespace Sys2Proof

/-- The command is an INIT. -/
def Instr.IsInit (i : Instr) : Prop := ∃ eng c a, i = initOf eng c a

/-- The command is a PROCESS. -/
def Instr.IsProcess (i : Instr) : Prop := ∃ c, i = .process c

/-- Two states after command `i` are the same in everything the spec determines: in every field, and in every byte of
`OBUF` but those of the range of a PROCESS that ended in WORD_LIMIT (40_contract.md R92, log 2). The model's counter of
free values (log 3) is left out. -/
structure Machine.SameAfter (i : Instr) (u v : Machine.State) : Prop where
  fields_eq : u = { v with obuf := u.obuf, freeCount := u.freeCount }
  obuf_eq : ∀ a, (i.IsProcess → Machine.statusClass u.status = 3 → a < u.outOff ∨ u.outOff + u.len ≤ a) →
    u.readByte .obuf a = v.readByte .obuf a

/-- What a context can hold from a successful INIT on, as long as no INIT and no RESTORE names it: an instance with that
INIT's reset image `rst`, or, after a DROP or a terminal error, none; and no write of a word of INIT or RESTORE on it to
`CMD` is pending (10_state.md R33, 40_contract.md R102). -/
structure Machine.HoldsImage (c : BitVec 4) (rst : Machine.CipherState) (s : Machine.State) : Prop where
  holds : (∃ cur, s.context c = .ready cur rst) ∨ s.context c = .empty ∨ ∃ e, s.context c = .dead e
  pending_ok : ∀ (w : Word) (i : Instr), Machine.HostAccess.write s.cfg.coreBase 4 w ∈ s.pending → decode w = .ok i →
    i.ctxOf = c → ¬ i.IsInit ∧ ∀ j, i ≠ .restore c j

/-- The slot a command names (30_encoding.md R72). -/
def Instr.slotOf : Instr → Option (BitVec 4)
  | .snapshot _ k => some k
  | .restore _ k => some k
  | .initLf128 _ _ | .initLf256 _ _ | .initCtr _ _ | .initSrp _ _ | .initBlk _ _ | .process _ | .retbyte _ _ | .reset _
  | .drop _ => none

/-- The same command addressed to another context. -/
def Instr.retarget (d : BitVec 4) : Instr → Instr
  | .initLf128 _ a => .initLf128 d a
  | .initLf256 _ a => .initLf256 d a
  | .initCtr _ a => .initCtr d a
  | .initSrp _ a => .initSrp d a
  | .initBlk _ a => .initBlk d a
  | .process _ => .process d
  | .retbyte _ b => .retbyte d b
  | .reset _ => .reset d
  | .snapshot _ k => .snapshot d k
  | .restore _ k => .restore d k
  | .drop _ => .drop d

end Sys2Proof
end

