-- ==== Sys2Proof/Certificates/Slice0/Obligations.lean ====
section
/-!
DEFINITION. The statements about the model, each from the rules of spec/ its docstring names. Those that rest on a choice
of the model name the log entry.
-/

open Sys2Proof Sys2Proof.Machine

/-! ### Command words -/

/-- The decoder reads back every well-formed command from its word, with every operand (30_encoding.md R71, R75, R76). -/
def Obligations.DecodeOfEncode : Prop :=
  ∀ i : Instr, i.wellFormed = true → decode (encode i) = .ok i

/-- A word that decodes is the word of the command it decodes to, which is well formed: no command has two words and no
bit of a word is dropped (30_encoding.md R70, R71, R73). -/
def Obligations.EncodeOfDecode : Prop :=
  ∀ (cw : Word) (i : Instr), decode cw = .ok i → i.wellFormed = true ∧ encode i = cw

/-- 30_encoding.md R78: the eleven rows; a word is a legal command exactly when it matches a row and, for an INIT row,
satisfies R73; it matches the row of the command it decodes to, and no word matches two rows. -/
def Obligations.LegalWordsMatchOneRow : Prop :=
  opcodeRows.length = 11 ∧
  (∀ i : Instr, opcodeRow i ∈ opcodeRows) ∧
  (∀ cw : Word, (∃ i, decode cw = .ok i) ↔
    ∃ row ∈ opcodeRows, row.matches cw = true ∧ (opField row.pattern = 1 → initLengthsConsistent cw = true)) ∧
  (∀ (cw : Word) (i : Instr), decode cw = .ok i → (opcodeRow i).matches cw = true) ∧
  (∀ cw : Word, ∀ r₁ ∈ opcodeRows, ∀ r₂ ∈ opcodeRows, r₁.matches cw = true → r₂.matches cw = true → r₁ = r₂)

/-- 30_encoding.md R79, R77: which words are illegal, and what writing one to `CMD` does: USAGE/ILLEGAL_CMD with the OP
and CTX bits of the word as written, RESULT 0, nothing else. -/
def Obligations.IllegalWordsRaiseIllegalCmd : Prop :=
  ∀ cw : Word,
    let op : BitVec 4 := cw.extractLsb' 28 4
    let eng : BitVec 4 := cw.extractLsb' 20 4
    ((∃ e, decode cw = .error e) ↔
      (op = 0 ∨ 8 ≤ op.toNat ∨
        (op = 1 ∧ cw.getLsbD 16 = true) ∨
        ((op = 2 ∨ op = 4 ∨ op = 7) ∧ cw.extractLsb' 0 24 ≠ 0) ∨
        (op = 3 ∧ cw.extractLsb' 8 16 ≠ 0) ∨
        ((op = 5 ∨ op = 6) ∧ cw.extractLsb' 0 20 ≠ 0) ∨
        (op = 1 ∧ (eng = 0 ∨ eng = 5 ∨ eng = 6 ∨ eng = 8 ∨ 9 ≤ eng.toNat)) ∨
        (op = 1 ∧ cw.getLsbD 18 = false ∧ cw.extractLsb' 8 8 ≠ 0) ∨
        (op = 1 ∧ cw.getLsbD 17 = false ∧ cw.extractLsb' 0 8 ≠ 0))) ∧
    (∀ e, decode cw = .error e → ∀ s : State,
      runCommand cw s =
        .next { s with
          cmd := cw
          status := 0#16 ++ op ++ cw.extractLsb' 24 4 ++ 1#4 ++ 0#2 ++ 2#2
          result := 0 })

/-- Words of the spec's own examples decode to the commands they stand for (30_encoding.md R71, R81; 40_contract.md R84,
R89, R93, R96, R97, R98). A sanity check of the field positions. -/
def Obligations.SpecExampleWordsDecode : Prop :=
  decode 0x101E1010 = .ok (.initLf128 0 ⟨true, true, true, 16, 16⟩) ∧
  decode 0x113E1008 = .ok (.initCtr 1 ⟨true, true, true, 16, 8⟩) ∧
  decode 0x21000000 = .ok (.process 1) ∧
  decode 0x32000041 = .ok (.retbyte 2 0x41) ∧
  decode 0x50100000 = .ok (.snapshot 0 1) ∧
  decode 0x62100000 = .ok (.restore 2 1) ∧
  decode 0x73000000 = .ok (.drop 3)

/-! ### The step and the host's accesses -/

/-- The model's choice of what a step is (log 4): it serves the oldest pending host access, and with none pending it
changes nothing (10_state.md R19: nothing acts unless the host does). -/
def Obligations.StepServesOldestAccess : Prop :=
  (∀ (s : State) (a : HostAccess) (rest : List HostAccess), s.pending = a :: rest →
    step s = serve a { s with pending := rest }) ∧
  (∀ s : State, s.pending = [] → step s = .next s)

/-- 10_state.md R38: a host write to `CMD` runs the command it encodes. That the write is the oldest entry of a queue of
pending accesses, that the step takes it off, and that `withFetchWord` puts it there, are the model's choice (log 4): where
that oldest write decodes to a command, the step is the command's meaning on the state with the write taken off the queue;
and the state built by `withFetchWord` runs exactly its word next. That a 4-byte write at `CORE_BASE` is aligned by its
offset, and so reaches `CMD` whatever `CORE_BASE` is, is the model's reading (log 10). -/
def Obligations.StepRunsDecodedCommand : Prop :=
  (∀ (s : State) (rest : List HostAccess) (cw : Word) (i : Instr),
    s.pending = .write s.cfg.coreBase 4 cw :: rest → decode cw = .ok i →
      step s = exec i { s with pending := rest }) ∧
  (∀ (s : State) (cw : Word) (i : Instr), decode cw = .ok i → step (s.withFetchWord 32 cw.toNat) = exec i s)

/-- What a host read of each register returns (10_state.md R38 to R41, R44), at the register's offset from `CORE_BASE`.
The view `CTXSTAT[c]` of each kind of context is spelled out field by field: LIFE at bit 0, ENG at bit 4, DIR at bit 8,
DCLASS at bit 12, DCODE at bit 16; beyond `NCTX` it reads 0. `busData` is the model's own place for the value read (log 5);
that an access is aligned by its offset, whatever `CORE_BASE` is, is the model's reading (log 10). -/
def Obligations.HostReadsRegisters : Prop :=
  ∀ s : State,
    let b := s.cfg.coreBase
    serve (.read (b + 0x000) 4) s = .next { s with busData := s.cmd } ∧
    serve (.read (b + 0x004) 4) s = .next { s with busData := s.status } ∧
    serve (.read (b + 0x008) 4) s = .next { s with busData := s.result } ∧
    serve (.read (b + 0x00C) 4) s = .next { s with busData := s.arg0 } ∧
    serve (.read (b + 0x010) 4) s = .next { s with busData := s.arg1 } ∧
    serve (.read (b + 0x014) 4) s = .next { s with busData := s.arg2 } ∧
    (∀ c : BitVec 4, s.hasContext c → ∃ w : Word,
      serve (.read (b + 0x020 + 4 * c.toNat) 4) s = .next { s with busData := w } ∧
      (s.context c = .empty → w = 0) ∧
      (∀ st rst, s.context c = .ready (.stream st) rst → w.toNat = 1 + 16 * st.engine.id.toNat) ∧
      (∀ st rst, s.context c = .ready (.blk st) rst → w.toNat = 1 + 16 * 7 + 256 * st.dir.toNat) ∧
      (∀ e, s.context c = .dead e → w.toNat = 2 + 4096 * e.cls.toNat + 65536 * e.code.toNat)) ∧
    (∀ c : BitVec 4, ¬ s.hasContext c →
      serve (.read (b + 0x020 + 4 * c.toNat) 4) s = .next { s with busData := 0 })

/-- What a host access may change (20_memory.md R51, R61; 10_state.md R38, R39): a read only returns a value, the same one
when it is repeated; a write to `CMD` runs its command; a write to `ARG0..2` sets that register; writes to `STATUS`,
`RESULT` and `CTXSTAT` are ignored. `busData` is the model's own place for the value read (log 5); that an access is aligned
by its offset, whatever `CORE_BASE` is, is the model's reading (log 10). -/
def Obligations.HostAccessEffects : Prop :=
  (∀ (s t : State) (addr size : Nat), serve (.read addr size) s = .next t →
    t = { s with busData := t.busData } ∧ serve (.read addr size) t = .next t) ∧
  (∀ (s : State) (v : Word),
    let b := s.cfg.coreBase
    serve (.write (b + 0x000) 4 v) s = runCommand v s ∧
    serve (.write (b + 0x004) 4 v) s = .next s ∧
    serve (.write (b + 0x008) 4 v) s = .next s ∧
    serve (.write (b + 0x00C) 4 v) s = .next { s with arg0 := v } ∧
    serve (.write (b + 0x010) 4 v) s = .next { s with arg1 := v } ∧
    serve (.write (b + 0x014) 4 v) s = .next { s with arg2 := v } ∧
    (∀ c < 16, serve (.write (b + 0x020 + 4 * c) 4 v) s = .next s))

/-- 10_state.md R42 and 20_memory.md R55: a 32-bit access to a reserved offset of the region reads 0 and writes
nothing. `busData` is the model's own place for the value read (log 5). The offset is 4-byte aligned; that this makes the
access aligned whatever `CORE_BASE` is, is the model's reading (log 10), which agrees with every other for a `CORE_BASE` that
is a multiple of 4. -/
def Obligations.ReservedOffsetsReadZero : Prop :=
  ∀ (s : State) (off : Nat), s.cfg.InRange → off < 0x30000 → off % 4 = 0 →
    ¬ off < 0x18 → ¬ (0x20 ≤ off ∧ off < 0x60) → ¬ (0x80 ≤ off ∧ off < 0xC0) →
    ¬ (0x10000 ≤ off ∧ off < 0x10000 + s.cfg.ibufSize) → ¬ (0x20000 ≤ off ∧ off < 0x20000 + s.cfg.obufSize) →
      serve (.read (s.cfg.coreBase + off) 4) s = .next { s with busData := 0 } ∧
      ∀ v : Word, serve (.write (s.cfg.coreBase + off) 4 v) s = .next s

/-- 20_memory.md R55, R57, R58 and R51: an aligned 8, 16 or 32-bit access inside a buffer window reads or writes the bytes
it covers, the byte at the lowest offset being bits 7:0; a write changes no other byte and nothing else; a write to the
`OBUF` window is ignored. The model's own: that a narrow read has its upper bits 0 and a narrow write takes the low bits of
the value (log 12), that alignment is judged on the offset, whatever `CORE_BASE` is (log 10), and `busData` as the place of
the value read (log 5). -/
def Obligations.WindowAccessesAreLittleEndian : Prop :=
  ∀ (s : State) (buf : Buffer) (base i size : Nat), s.cfg.InRange →
    (buf, base) ∈ [(Buffer.keybuf, 0x80), (Buffer.ivbuf, 0xA0), (Buffer.ibuf, 0x10000), (Buffer.obuf, 0x20000)] →
    (size = 1 ∨ size = 2 ∨ size = 4) → i % size = 0 → i + size ≤ s.cfg.size buf →
      (∃ w : Word, serve (.read (s.cfg.coreBase + (base + i)) size) s = .next { s with busData := w } ∧
        (∀ k < size, w.extractLsb' (8 * k) 8 = s.readByte buf (i + k)) ∧ w.toNat < 256 ^ size) ∧
      (∀ v : Word, buf = .obuf → serve (.write (s.cfg.coreBase + (base + i)) size v) s = .next s) ∧
      (∀ v : Word, buf ≠ .obuf → ∃ t, serve (.write (s.cfg.coreBase + (base + i)) size v) s = .next t ∧
        (∀ k < size, t.readByte buf (i + k) = v.extractLsb' (8 * k) 8) ∧
        (∀ a, a < i ∨ i + size ≤ a → t.readByte buf a = s.readByte buf a) ∧
        (∀ buf', buf' ≠ buf → ∀ a, t.readByte buf' a = s.readByte buf' a) ∧
        t = { s with keybuf := t.keybuf, ivbuf := t.ivbuf, ibuf := t.ibuf })

/-- The model's treatment of the accesses the spec leaves unspecified or outside CORE: they stop the run by name, for a read
as for a write. Below `CORE_BASE` and beyond the region an access faults (log 9); the others are refused (93 U2, log 8), a
misaligned one judged on its offset from `CORE_BASE` (log 10). -/
def Obligations.UnspecifiedAccessesStop : Prop :=
  ∀ (s : State) (off size : Nat) (v : Word),
    let b := s.cfg.coreBase
    (∀ addr < b, serve (.read addr size) s = .fault .outsideRegion ∧ serve (.write addr size v) s = .fault .outsideRegion) ∧
    (0x30000 ≤ off →
      serve (.read (b + off) size) s = .fault .outsideRegion ∧ serve (.write (b + off) size v) s = .fault .outsideRegion) ∧
    (off < 0x30000 → ¬ (size = 1 ∨ size = 2 ∨ size = 4) →
      serve (.read (b + off) size) s = .refused .unsupportedWidth ∧
      serve (.write (b + off) size v) s = .refused .unsupportedWidth) ∧
    (off < 0x30000 → (size = 2 ∨ size = 4) → off % size ≠ 0 →
      serve (.read (b + off) size) s = .refused .misalignedAccess ∧
      serve (.write (b + off) size v) s = .refused .misalignedAccess) ∧
    ((off < 0x18 ∨ (0x20 ≤ off ∧ off < 0x60)) → (size = 1 ∨ size = 2) → off % size = 0 →
      serve (.read (b + off) size) s = .refused .narrowRegisterAccess ∧
      serve (.write (b + off) size v) s = .refused .narrowRegisterAccess) ∧
    (s.cfg.InRange → (size = 2 ∨ size = 4) → off % size = 0 →
      (∃ base bytes, ((base, bytes) = (0x10000, s.cfg.ibufSize) ∨ (base, bytes) = (0x20000, s.cfg.obufSize)) ∧
        base ≤ off ∧ off < base + bytes ∧ base + bytes < off + size) →
      serve (.read (b + off) size) s = .refused .straddlesWindow ∧
      serve (.write (b + off) size v) s = .refused .straddlesWindow)

/-! ### STATUS, RESULT and errors -/

/-- 60_exceptions.md R182: what raising an error does, and the same formula for success. -/
def Obligations.RaiseWritesStatus : Prop :=
  ∀ s : State,
    let word (cls : BitVec 2) (code : BitVec 4) : Word :=
      cls.setWidth 32 ||| (code.setWidth 32 <<< 4) ||| ((s.cmd.extractLsb' 24 4).setWidth 32 <<< 8)
        ||| ((s.cmd.extractLsb' 28 4).setWidth 32 <<< 12)
    (∀ e : UsageError, s.raise (.usage e) = .next { s with status := word 2 e.code, result := 0 }) ∧
    (∀ e : ConfigError, s.raise (.terminal (.config e)) =
      .next { s with
        ctx := s.ctx.set (s.cmd.extractLsb' 24 4).toNat (.dead (.config e))
        status := word 1 e.code
        result := 0 }) ∧
    (s.raise (.terminal (.exhausted .wordLimit)) =
      .next { s with
        ctx := s.ctx.set (s.cmd.extractLsb' 24 4).toNat (.dead (.exhausted .wordLimit))
        status := word 3 1
        result := 0 }) ∧
    (∀ result : Word, s.succeed result = .next { s with status := word 0 0, result := result })

/-- 10_state.md R37, R38, R40 and 60_exceptions.md R181: every word written to `CMD`, legal or not, ends in a next state in
which `CMD` holds the word, STATUS carries its OP and CTX with every reserved bit 0 and a class and code that CORE
produces, and after an error RESULT is 0. -/
def Obligations.EveryCommandReportsItsOutcome : Prop :=
  ∀ (cw : Word) (s : State), ∃ t, runCommand cw s = .next t ∧
    t.cmd = cw ∧
    t.status.extractLsb' 12 4 = cw.extractLsb' 28 4 ∧
    t.status.extractLsb' 8 4 = cw.extractLsb' 24 4 ∧
    t.status.extractLsb' 2 2 = 0 ∧ t.status.extractLsb' 16 16 = 0 ∧
    LegalOutcome (statusClass t.status) (statusCode t.status) ∧
    (statusClass t.status ≠ 0 → t.result = 0)

/-- 10_state.md R41: RESULT after a command that succeeded: ARG1 after PROCESS, a byte with bits 31:8 zero after RETBYTE, 0
after every other command; and 0 after an error. -/
def Obligations.ResultRegister : Prop :=
  ∀ (i : Instr) (s t : State), exec i s = .next t →
    (statusClass t.status ≠ 0 → t.result = 0) ∧
    (statusClass t.status = 0 → (∀ c, i = .process c → t.result = s.arg1)) ∧
    (statusClass t.status = 0 → (∀ c b, i = .retbyte c b → ∃ st rst kb st', s.context c = .ready (.stream st) rst ∧
      nextByte s.cfg st = some (kb, st') ∧ t.result.extractLsb' 0 8 = b ^^^ kb ∧ t.result.extractLsb' 8 24 = 0)) ∧
    ((∀ c, i ≠ .process c) → (∀ c b, i ≠ .retbyte c b) → t.result = 0)

/-- 20_memory.md R62: a command that ends with a USAGE error changes nothing except `CMD`, `STATUS` and `RESULT`. -/
def Obligations.UsageErrorsHaveNoEffect : Prop :=
  ∀ (cw : Word) (s t : State), runCommand cw s = .next t → statusClass t.status = 2 →
    t = { s with cmd := cw, status := t.status, result := 0 }

/-- What every command leaves unchanged (10_state.md R34, R39, R45; 60_exceptions.md R192): the configuration, the argument
registers, every byte of `KEYBUF`, `IVBUF` and `IBUF`, every context but the one it names, every slot but one a SNAPSHOT
names, every byte of `OBUF` outside the range of a PROCESS, and the model's own queue of host accesses. -/
def Obligations.CommandFrame : Prop :=
  ∀ (i : Instr) (s t : State), exec i s = .next t →
    t.cfg = s.cfg ∧ t.arg0 = s.arg0 ∧ t.arg1 = s.arg1 ∧ t.arg2 = s.arg2 ∧
    t.pending = s.pending ∧ t.busData = s.busData ∧
    (∀ buf, buf ≠ .obuf → ∀ a, t.readByte buf a = s.readByte buf a) ∧
    ((∀ c, i ≠ .process c) → ∀ a, t.readByte .obuf a = s.readByte .obuf a) ∧
    (∀ a, a < s.outOff ∨ s.outOff + s.len ≤ a → t.readByte .obuf a = s.readByte .obuf a) ∧
    (∀ d, d ≠ i.ctxOf → t.context d = s.context d) ∧
    (∀ c k, i = .snapshot c k → t.context c = s.context c) ∧
    (∀ k, (∀ c, i ≠ .snapshot c k) → t.snapshotAt k = s.snapshotAt k)

/-- 40_contract.md R82 step 3 and 60_exceptions.md R186: an index out of range is BAD_INDEX, checked before the context is
looked at, and never taken modulo the count (60_exceptions.md R185). -/
def Obligations.IndexErrors : Prop :=
  ∀ (i : Instr) (s : State),
    (¬ s.hasContext i.ctxOf ∨ (∃ k, i.slotOf = some k ∧ ¬ s.hasSlot k)) → exec i s = .next (s.refusedWith i .badIndex)

/-- 40_contract.md R83 and 60_exceptions.md R184: a DEAD context answers every command but DROP with DEAD_CTX; an EMPTY one
answers PROCESS, RETBYTE, RESET and SNAPSHOT with NOT_INIT. -/
def Obligations.LifecycleErrors : Prop :=
  ∀ (i : Instr) (s : State), s.hasContext i.ctxOf → (∀ k, i.slotOf = some k → s.hasSlot k) →
    ((∃ e, s.context i.ctxOf = .dead e) → (∀ c, i ≠ .drop c) → exec i s = .next (s.refusedWith i .deadCtx)) ∧
    (s.context i.ctxOf = .empty → i.IsProcess ∨ (∃ c b, i = .retbyte c b) ∨ (∃ c, i = .reset c) ∨ (∃ c k, i = .snapshot c k) →
      exec i s = .next (s.refusedWith i .notInit))

/-- 60_exceptions.md R179 codes 6, 7, 8: RETBYTE on a BLK context, RESTORE from an unused slot, and RESTORE into a READY
context of another engine. -/
def Obligations.EngineAndSlotErrors : Prop :=
  ∀ (s : State) (c : BitVec 4), s.hasContext c →
    (∀ b st rst, s.context c = .ready (.blk st) rst →
      exec (.retbyte c b) s = .next (s.refusedWith (.retbyte c b) .noRetbyte)) ∧
    (∀ k, s.hasSlot k → (s.context c).Alive → s.snapshotAt k = none →
      exec (.restore c k) s = .next (s.refusedWith (.restore c k) .snapEmpty)) ∧
    (∀ k snap cur rst, s.hasSlot k → s.context c = .ready cur rst → s.snapshotAt k = some snap →
      cur.engine ≠ snap.cur.engine →
        exec (.restore c k) s = .next (s.refusedWith (.restore c k) .snapMismatch))

/-! ### INIT -/

/-- 40_contract.md R85: the outcome of the configuration check for every engine and every operand, in the order of that
rule, and the four codes. -/
def Obligations.ConfigCheckOrder : Prop :=
  ∀ (eng : Engine) (a : InitOperands),
    let keyOk := a.klen.toNat ∈ acceptedKeyLengths eng
    let ivOk := a.ivlen.toNat ∈ acceptedIvLengths eng
    (configCheck eng a = some .noKey ↔ a.hasKey = false) ∧
    (configCheck eng a = some .keyLen ↔ a.hasKey = true ∧ ¬ keyOk) ∧
    (configCheck eng a = some .noIv ↔ a.hasKey = true ∧ keyOk ∧ eng ≠ .blk ∧ a.hasIv = false) ∧
    (configCheck eng a = some .ivLen ↔
      a.hasKey = true ∧ keyOk ∧ a.hasIv = true ∧ (eng = .blk ∨ ¬ ivOk)) ∧
    (configCheck eng a = none ↔
      a.hasKey = true ∧ keyOk ∧ ((eng = .blk ∧ a.hasIv = false) ∨ (eng ≠ .blk ∧ a.hasIv = true ∧ ivOk))) ∧
    ConfigError.noKey.code = 1 ∧ ConfigError.keyLen.code = 2 ∧ ConfigError.noIv.code = 3 ∧ ConfigError.ivLen.code = 4

/-- 60_exceptions.md R178: a configuration error kills the context, whatever it held, and changes nothing else; only an INIT
whose configuration check fails reports class 1. -/
def Obligations.InitConfigErrorKills : Prop :=
  (∀ (eng : Engine) (c : BitVec 4) (a : InitOperands) (e : ConfigError) (s : State),
    s.hasContext c → (s.context c).Alive → configCheck eng a = some e →
      exec (initOf eng c a) s =
        .next { s with
          cmd := encode (initOf eng c a)
          ctx := s.ctx.set c.toNat (.dead (.config e))
          status := 0#16 ++ 1#4 ++ c ++ e.code ++ 0#2 ++ 1#2
          result := 0 }) ∧
  (∀ (i : Instr) (s t : State), exec i s = .next t → statusClass t.status = 1 →
    ∃ eng c a e, i = initOf eng c a ∧ configCheck eng a = some e ∧ statusCode t.status = e.code)

/-- INIT.LF128 completes (40_contract.md R84, 41_lfsr_fsm.md R119): load, 32 warm-up rounds, discard, counter 0, empty
buffer; the new instance and its reset image are equal; STATUS OK, RESULT 0. -/
def Obligations.InitLf128Completes : Prop :=
  ∀ (s : State) (c : BitVec 4) (a : InitOperands), s.hasContext c → (s.context c).Alive →
    a.hasKey = true → a.klen = 16 → a.hasIv = true → a.ivlen = 16 →
      let rom := s.cfg.rom
      let loaded : LfState :=
        { s := lfLoad128 rom (s.readBytes .keybuf 0 16) (s.readBytes .ivbuf 0 16), r1 := 0, r2 := 0, iter := 0,
          buf := { ks := [0, 0, 0, 0], idx := 4 } }
      let st : CipherState := .stream (.lf128 (lfDiscard rom ((lfWarmUp rom)^[32] loaded)))
      exec (.initLf128 c a) s = .next ((s.setContext c (.ready st st)).done (.initLf128 c a) 0)

/-- INIT.LF256 completes (40_contract.md R84, 41_lfsr_fsm.md R119): as LF128, with the loading of R112 from 32 key bytes and
25 IV bytes. -/
def Obligations.InitLf256Completes : Prop :=
  ∀ (s : State) (c : BitVec 4) (a : InitOperands), s.hasContext c → (s.context c).Alive →
    a.hasKey = true → a.klen = 32 → a.hasIv = true → a.ivlen = 25 →
      let rom := s.cfg.rom
      let loaded : LfState :=
        { s := lfLoad256 rom (s.readBytes .keybuf 0 32) (s.readBytes .ivbuf 0 25), r1 := 0, r2 := 0, iter := 0,
          buf := { ks := [0, 0, 0, 0], idx := 4 } }
      let st : CipherState := .stream (.lf256 (lfDiscard rom ((lfWarmUp rom)^[32] loaded)))
      exec (.initLf256 c a) s = .next ((s.setContext c (.ready st st)).done (.initLf256 c a) 0)

/-- INIT.CTR completes (40_contract.md R84, 42_counter.md R129 to R131): four clocks and the counter mix for `master`, the IV
and four clocks for `work`, an empty buffer. -/
def Obligations.InitCtrCompletes : Prop :=
  ∀ (s : State) (c : BitVec 4) (a : InitOperands), s.hasContext c → (s.context c).Alive →
    a.hasKey = true → a.klen = 16 → a.hasIv = true → a.ivlen = 8 →
      let rom := s.cfg.rom
      let master := ctrMixCounters ((ctrNextState rom)^[4] (ctrLoadKey (s.readBytes .keybuf 0 16)))
      let work := (ctrNextState rom)^[4] (ctrLoadIv master (s.readBytes .ivbuf 0 8))
      let st : CipherState :=
        .stream (.ctr { master := master, work := work, buf := { ks := List.replicate 16 0, idx := 16 } })
      exec (.initCtr c a) s = .next ((s.setContext c (.ready st st)).done (.initCtr c a) 0)

/-- INIT.SRP completes for every key of 1 to 32 bytes and every IV of 0 to 16 bytes (40_contract.md R84,
43_serpent_derived.md R144): the subkeys from the key, the registers from the subkeys and the IV, an empty buffer. -/
def Obligations.InitSrpCompletes : Prop :=
  ∀ (s : State) (c : BitVec 4) (a : InitOperands), s.hasContext c → (s.context c).Alive →
    a.hasKey = true → 1 ≤ a.klen.toNat → a.klen.toNat ≤ 32 → a.hasIv = true → a.ivlen.toNat ≤ 16 →
      let rom := s.cfg.rom
      let sk := srpKeySchedule rom (s.readBytes .keybuf 0 a.klen.toNat)
      ∃ st : SrpState,
        exec (.initSrp c a) s =
          .next ((s.setContext c (.ready (.stream (.srp st)) (.stream (.srp st)))).done (.initSrp c a) 0) ∧
        st = srpInit rom (s.readBytes .keybuf 0 a.klen.toNat) (s.readBytes .ivbuf 0 a.ivlen.toNat) ∧
        st.sk = sk ∧ st.sk.length = 100 ∧ st.buf = { ks := List.replicate 80 0, idx := 80 }

/-- INIT.BLK completes for keys of 16, 24 and 32 bytes without an IV (40_contract.md R84, 45_block_cipher.md R151, R158):
`N` key words, `8 + N` rounds, one subkey more than rounds in each schedule, first and last swapped in the decryption
schedule (R157), and `DIR` stored (40_contract.md R86). -/
def Obligations.InitBlkCompletes : Prop :=
  ∀ (s : State) (c : BitVec 4) (a : InitOperands), s.hasContext c → (s.context c).Alive →
    a.hasKey = true → (a.klen = 16 ∨ a.klen = 24 ∨ a.klen = 32) → a.hasIv = false →
      ∃ st : BlkState,
        exec (.initBlk c a) s = .next ((s.setContext c (.ready (.blk st) (.blk st))).done (.initBlk c a) 0) ∧
        st = blkInit s.cfg.rom (s.readBytes .keybuf 0 a.klen.toNat) a.dir ∧
        st.dir = a.dir ∧ 4 * st.n = a.klen.toNat ∧ st.r = 8 + st.n ∧
        st.ke.length = st.r + 1 ∧ st.kd.length = st.r + 1 ∧
        st.kd[0]? = st.ke[st.r]? ∧ st.kd[st.r]? = st.ke[0]?

/-- 10_state.md R31, R32, R33: whatever INIT succeeds, the context then holds an instance of the engine named, equal to its
reset image, with an empty buffer and no word counted; the other parts have the sizes and ranges of R25 to R28. -/
def Obligations.InitLeavesFreshInstance : Prop :=
  ∀ (eng : Engine) (c : BitVec 4) (a : InitOperands) (s t : State), s.Inv →
    exec (initOf eng c a) s = .next t → statusClass t.status = 0 →
      ∃ st : CipherState, t.context c = .ready st st ∧ st.engine = eng ∧ st.Fresh ∧ st.Wf s.cfg

/-- 40_contract.md R86: for the stream engines two INITs that differ only in `DIR` leave identical contexts and `CTXSTAT.DIR`
reads 0; for BLK `DIR` is stored, and no command but an INIT, a RESTORE or a DROP of that context changes it. -/
def Obligations.DirIgnoredByStreamEngines : Prop :=
  (∀ (eng : Engine) (c : BitVec 4) (a : InitOperands) (d : Bool) (s t t' : State), eng ≠ .blk →
    exec (initOf eng c a) s = .next t → exec (initOf eng c { a with dir := d }) s = .next t' →
      t.ctx = t'.ctx) ∧
  (∀ (st : StreamState) (rst : CipherState), (Context.ready (.stream st) rst).stat.getLsbD 8 = false) ∧
  (∀ (st : BlkState) (rst : CipherState), (Context.ready (.blk st) rst).stat.getLsbD 8 = st.dir) ∧
  (∀ (c : BitVec 4) (a : InitOperands) (s t : State), s.Inv →
    exec (.initBlk c a) s = .next t → statusClass t.status = 0 →
      ∃ st, t.context c = .ready (.blk st) (.blk st) ∧ st.dir = a.dir) ∧
  (∀ (i : Instr) (c : BitVec 4) (s t : State) (st : BlkState) (rst : CipherState), s.Inv →
    s.context c = .ready (.blk st) rst → exec i s = .next t →
    (i.ctxOf = c → ¬ i.IsInit ∧ (∀ k, i ≠ .restore c k) ∧ i ≠ .drop c) →
      ∃ st' rst', t.context c = .ready (.blk st') rst' ∧ st'.dir = st.dir)

/-- 40_contract.md R87: INIT on a context that is not DEAD does the same whatever the context held: nothing of the old
instance survives. -/
def Obligations.InitForgetsTheOldInstance : Prop :=
  ∀ (eng : Engine) (c : BitVec 4) (a : InitOperands) (s : State) (x y : Context),
    s.hasContext c → x.Alive → y.Alive →
    exec (initOf eng c a) (s.setContext c x) = exec (initOf eng c a) (s.setContext c y)

/-- 20_memory.md R52 and 40_contract.md R105: the instance INIT makes depends only on the `KLEN` first bytes of `KEYBUF` and
the `IVLEN` first bytes of `IVBUF` (and on the configuration): in two states that agree there, the context gets the same
value and STATUS the same outcome, whatever the further bytes are. -/
def Obligations.InitReadsOnlyTheGivenLengths : Prop :=
  ∀ (eng : Engine) (c : BitVec 4) (a : InitOperands) (s s' t t' : State),
    s.cfg = s'.cfg → s.ctx = s'.ctx →
    (∀ k < a.klen.toNat, s.readByte .keybuf k = s'.readByte .keybuf k) →
    (∀ k < a.ivlen.toNat, s.readByte .ivbuf k = s'.readByte .ivbuf k) →
    exec (initOf eng c a) s = .next t → exec (initOf eng c a) s' = .next t' →
      t.ctx = t'.ctx ∧ t.status = t'.status ∧ t.result = t'.result

/-! ### PROCESS and RETBYTE -/

/-- PROCESS on a stream engine completes (40_contract.md R89, 20_memory.md R53): where the ranges fit and the keystream bytes
are there, output byte `i` is input byte `i` XOR keystream byte `i`, the context has moved past exactly those bytes,
RESULT is the length, and no byte of `OBUF` outside the range changes. -/
def Obligations.ProcessStreamCompletes : Prop :=
  ∀ (s : State) (c : BitVec 4) (st st' : StreamState) (rst : CipherState) (ks : List Byte),
    s.hasContext c → s.context c = .ready (.stream st) rst →
    s.arg0.toNat + s.arg1.toNat ≤ s.cfg.ibufSize → s.arg2.toNat + s.arg1.toNat ≤ s.cfg.obufSize →
    takeBytes s.cfg s.arg1.toNat st = some (ks, st') →
      ∃ out : List Byte, out.length = s.arg1.toNat ∧
        exec (.process c) s =
          .next (((s.writeBytes .obuf s.arg2.toNat out).setContext c (.ready (.stream st') rst)).done (.process c) s.arg1) ∧
        ∀ t, exec (.process c) s = .next t →
          t.context c = .ready (.stream st') rst ∧
          (∀ i < s.arg1.toNat,
            t.readByte .obuf (s.arg2.toNat + i) = s.readByte .ibuf (s.arg0.toNat + i) ^^^ byteAt ks i) ∧
          (∀ a, a < s.arg2.toNat ∨ s.arg2.toNat + s.arg1.toNat ≤ a → t.readByte .obuf a = s.readByte .obuf a)

/-- PROCESS on BLK completes (40_contract.md R89, R91; 45_block_cipher.md R161): where the ranges fit and the length is a
multiple of 16, block `q` of the output is the block transform of block `q` of the input under the context's subkeys, no
byte outside the range changes, and the context does not change. -/
def Obligations.ProcessBlkCompletes : Prop :=
  ∀ (s : State) (c : BitVec 4) (st : BlkState) (rst : CipherState),
    s.hasContext c → s.context c = .ready (.blk st) rst →
    s.arg0.toNat + s.arg1.toNat ≤ s.cfg.ibufSize → s.arg2.toNat + s.arg1.toNat ≤ s.cfg.obufSize →
    s.arg1.toNat % 16 = 0 →
      ∃ out : List Byte, out.length = s.arg1.toNat ∧
        exec (.process c) s = .next ((s.writeBytes .obuf s.arg2.toNat out).done (.process c) s.arg1) ∧
        ∀ t, exec (.process c) s = .next t →
          t.context c = s.context c ∧
          (∀ q < s.arg1.toNat / 16, ∀ j < 16,
            t.readByte .obuf (s.arg2.toNat + (16 * q + j)) =
              byteAt (blkCrypt s.cfg.rom st (s.readBytes .ibuf (s.arg0.toNat + 16 * q) 16)) j) ∧
          (∀ a, a < s.arg2.toNat ∨ s.arg2.toNat + s.arg1.toNat ≤ a → t.readByte .obuf a = s.readByte .obuf a)

/-- 20_memory.md R54 and 40_contract.md R91: PROCESS on a READY context reports BUF_SHORT, without effect, exactly when a
range does not fit (the sums are natural numbers) or a BLK length is no multiple of 16. -/
def Obligations.ProcessBufShort : Prop :=
  ∀ (s : State) (c : BitVec 4) (cur rst : CipherState), s.hasContext c → s.context c = .ready cur rst →
    let short : Prop :=
      s.cfg.ibufSize < s.arg0.toNat + s.arg1.toNat ∨ s.cfg.obufSize < s.arg2.toNat + s.arg1.toNat ∨
        (cur.engine = .blk ∧ s.arg1.toNat % 16 ≠ 0)
    (short → exec (.process c) s = .next (s.refusedWith (.process c) .bufShort)) ∧
    (∀ t, exec (.process c) s = .next t → (statusClass t.status = 2 ↔ short))

/-- 30_encoding.md R80: the nearest things to a NOP: PROCESS with `ARG1 = 0` on a READY context, its offsets within the
buffers, and DROP on an EMPTY context succeed and change no state but the registers every command writes. -/
def Obligations.NearestThingsToNop : Prop :=
  (∀ (s : State) (c : BitVec 4) (cur rst : CipherState), s.hasContext c → s.context c = .ready cur rst → s.arg1 = 0 →
    s.arg0.toNat ≤ s.cfg.ibufSize → s.arg2.toNat ≤ s.cfg.obufSize →
      exec (.process c) s = .next (s.done (.process c) 0)) ∧
  (∀ (s : State) (c : BitVec 4), s.hasContext c → s.context c = .empty →
    exec (.drop c) s = .next (s.done (.drop c) 0))

/-- 40_contract.md R92 and 60_exceptions.md R180: when the word limit is met, PROCESS and RETBYTE end in
EXHAUSTED/WORD_LIMIT: the context is DEAD, RESULT is 0, no byte of `OBUF` outside the range of PROCESS changes and RETBYTE
changes none. Nothing is said of the bytes inside the range: they are free values (log 2). -/
def Obligations.WordLimitKillsTheContext : Prop :=
  ∀ (s : State) (c : BitVec 4) (st : StreamState) (rst : CipherState),
    s.hasContext c → c.toNat < s.ctx.length → s.context c = .ready (.stream st) rst →
    (s.arg0.toNat + s.arg1.toNat ≤ s.cfg.ibufSize → s.arg2.toNat + s.arg1.toNat ≤ s.cfg.obufSize →
      takeBytes s.cfg s.arg1.toNat st = none →
        ∃ t, exec (.process c) s = .next t ∧ t.context c = .dead (.exhausted .wordLimit) ∧
          t.status = 0#16 ++ 2#4 ++ c ++ 1#4 ++ 0#2 ++ 3#2 ∧ t.result = 0 ∧
          (∀ a, a < s.arg2.toNat ∨ s.arg2.toNat + s.arg1.toNat ≤ a → t.readByte .obuf a = s.readByte .obuf a)) ∧
    (∀ b : Byte, nextByte s.cfg st = none →
      exec (.retbyte c b) s = .next (s.killedWith (.retbyte c b) c (.exhausted .wordLimit)))

/-- 40_contract.md R104, 41_lfsr_fsm.md R121, 60_exceptions.md R180: an LF context gives exactly the bytes left in its buffer
and four for every word left of its budget, not one fewer and not one more; so one with a fresh counter and an empty
buffer gives exactly `4 * LF_MAX` bytes. CTR and SRP never run out. -/
def Obligations.ExhaustionBound : Prop :=
  (∀ (cfg : Config) (n : Nat) (st : LfState), st.buf.idx ≤ 4 → st.iter ≤ cfg.lfMax128 →
    ((takeBytes cfg n (.lf128 st)).isSome = true ↔ n ≤ (4 - st.buf.idx) + 4 * (cfg.lfMax128 - st.iter))) ∧
  (∀ (cfg : Config) (n : Nat) (st : LfState), st.buf.idx ≤ 4 → st.iter ≤ cfg.lfMax256 →
    ((takeBytes cfg n (.lf256 st)).isSome = true ↔ n ≤ (4 - st.buf.idx) + 4 * (cfg.lfMax256 - st.iter))) ∧
  (∀ (cfg : Config) (n : Nat) (st : CtrState), (takeBytes cfg n (.ctr st)).isSome = true) ∧
  (∀ (cfg : Config) (n : Nat) (st : SrpState), (takeBytes cfg n (.srp st)).isSome = true)

/-- 10_state.md R32, 60_exceptions.md R190, 70_reset_and_hazards.md R199: taking `n` bytes counts exactly one keystream word
for every four bytes that the buffer did not hold, rounded up; and a counter within the limit stays within it. -/
def Obligations.IterationCounterCountsWords : Prop :=
  (∀ (cfg : Config) (n : Nat) (st st' : LfState) (ks : List Byte), st.buf.idx ≤ 4 →
    takeBytes cfg n (.lf128 st) = some (ks, .lf128 st') →
      st'.iter = st.iter + (n - (4 - st.buf.idx) + 3) / 4 ∧ (st.iter ≤ cfg.lfMax128 → st'.iter ≤ cfg.lfMax128)) ∧
  (∀ (cfg : Config) (n : Nat) (st st' : LfState) (ks : List Byte), st.buf.idx ≤ 4 →
    takeBytes cfg n (.lf256 st) = some (ks, .lf256 st') →
      st'.iter = st.iter + (n - (4 - st.buf.idx) + 3) / 4 ∧ (st.iter ≤ cfg.lfMax256 → st'.iter ≤ cfg.lfMax256))

/-- 40_contract.md R90: the logical keystream: byte `i` taken from an engine whose buffer is used up is byte `i mod BUFLEN` of
the buffer that generation number `i / BUFLEN` fills. -/
def Obligations.LogicalKeystream : Prop :=
  (∀ (cfg : Config) (n : Nat) (st : LfState) (st' : StreamState) (ks : List Byte), st.buf.idx = 4 →
    takeBytes cfg n (.lf128 st) = some (ks, st') →
      ∀ i < n, byteAt ks i = byteAt ((lfWord cfg.rom)^[i / 4 + 1] st).buf.ks (i % 4)) ∧
  (∀ (cfg : Config) (n : Nat) (st : LfState) (st' : StreamState) (ks : List Byte), st.buf.idx = 4 →
    takeBytes cfg n (.lf256 st) = some (ks, st') →
      ∀ i < n, byteAt ks i = byteAt ((lfWord cfg.rom)^[i / 4 + 1] st).buf.ks (i % 4)) ∧
  (∀ (cfg : Config) (n : Nat) (st : CtrState) (st' : StreamState) (ks : List Byte), st.buf.idx = 16 →
    takeBytes cfg n (.ctr st) = some (ks, st') →
      ∀ i < n, byteAt ks i = byteAt ((ctrGenerate cfg.rom)^[i / 16 + 1] st).buf.ks (i % 16)) ∧
  (∀ (cfg : Config) (n : Nat) (st : SrpState) (st' : StreamState) (ks : List Byte), st.buf.idx = 80 →
    takeBytes cfg n (.srp st) = some (ks, st') →
      ∀ i < n, byteAt ks i = byteAt ((srpGenerate cfg.rom)^[i / 80 + 1] st).buf.ks (i % 80))

/-- 40_contract.md R99: one PROCESS of `n₁ + n₂` bytes gives the same bytes of `OBUF` and leaves the same context as a PROCESS
of `n₁` bytes followed by one of `n₂` bytes on the ranges that follow it, on every engine (on BLK at block granularity). -/
def Obligations.ChunkSizeIndependence : Prop :=
  ∀ (s t₁ t₂ : State) (c : BitVec 4) (inOff n₁ n₂ outOff : Word), s.cfg.InRange →
    exec (.process c) (s.withArgs inOff n₁ outOff) = .next t₁ → statusClass t₁.status = 0 →
    exec (.process c) (t₁.withArgs (inOff + n₁) n₂ (outOff + n₁)) = .next t₂ → statusClass t₂.status = 0 →
      ∃ t, exec (.process c) (s.withArgs inOff (n₁ + n₂) outOff) = .next t ∧ statusClass t.status = 0 ∧
        t.result = n₁ + n₂ ∧ t.context c = t₂.context c ∧ ∀ a, t.readByte .obuf a = t₂.readByte .obuf a

/-- 40_contract.md R100: on a stream engine, feeding the output of one context to another that held an equal CipherState
gives the input back, byte by byte. -/
def Obligations.StreamDecryptsWhatItEncrypts : Prop :=
  ∀ (s s' t t' : State) (c d : BitVec 4) (st : StreamState) (rst rst' : CipherState),
    s.cfg = s'.cfg → s.arg1 = s'.arg1 →
    s.context c = .ready (.stream st) rst → s'.context d = .ready (.stream st) rst' →
    exec (.process c) s = .next t → statusClass t.status = 0 →
    (∀ i < s.arg1.toNat, s'.readByte .ibuf (s'.arg0.toNat + i) = t.readByte .obuf (s.arg2.toNat + i)) →
    exec (.process d) s' = .next t' → statusClass t'.status = 0 →
      ∀ i < s.arg1.toNat, t'.readByte .obuf (s'.arg2.toNat + i) = s.readByte .ibuf (s.arg0.toNat + i)

/-- RETBYTE completes (40_contract.md R93): RESULT is the byte XOR the next keystream byte, zero-extended, and the context has
moved past one byte, exactly as a PROCESS of one byte moves it; buffers and argument registers stay. -/
def Obligations.RetbyteCompletes : Prop :=
  ∀ (s : State) (c : BitVec 4) (b kb : Byte) (st st' : StreamState) (rst : CipherState),
    s.hasContext c → s.context c = .ready (.stream st) rst → nextByte s.cfg st = some (kb, st') →
      exec (.retbyte c b) s =
        .next ((s.setContext c (.ready (.stream st') rst)).done (.retbyte c b) (0#24 ++ (b ^^^ kb))) ∧
      takeBytes s.cfg 1 st = some ([kb], st')

/-! ### RESET, SNAPSHOT, RESTORE, DROP -/

/-- RESET completes (40_contract.md R94, 70_reset_and_hazards.md R194): the context holds its reset image, the reset image
and everything else stay, and RESET twice equals RESET once. -/
def Obligations.ResetCompletes : Prop :=
  ∀ (s : State) (c : BitVec 4) (cur rst : CipherState), s.hasContext c → s.context c = .ready cur rst →
    exec (.reset c) s = .next ((s.setContext c (.ready rst rst)).done (.reset c) 0) ∧
    exec (.reset c) ((s.setContext c (.ready rst rst)).done (.reset c) 0) =
      .next ((s.setContext c (.ready rst rst)).done (.reset c) 0)

/-- 40_contract.md R102: after a context was initialised, any number of steps, as long as no pending write to `CMD` holds a
word of INIT or of RESTORE on that context: a RESET that then succeeds puts the context back exactly as INIT left it, word
budget included. The steps serve the model's queue of pending accesses (log 4), in which HRESET is no event (log 14). -/
def Obligations.ResetReturnsToInit : Prop :=
  ∀ (k : Nat) (s u v : State) (c : BitVec 4) (st : CipherState), s.context c = .ready st st →
    (∀ w i, HostAccess.write s.cfg.coreBase 4 w ∈ s.pending → decode w = .ok i → i.ctxOf = c →
      ¬ i.IsInit ∧ ∀ j, i ≠ .restore c j) →
    Sys2Proof.core.run k s = .next u →
    exec (.reset c) u = .next v → statusClass v.status = 0 →
      v.context c = s.context c

/-- SNAPSHOT completes (40_contract.md R96): the slot holds the CipherState, buffer and cursor included, and the reset image;
the context and everything else stay. -/
def Obligations.SnapshotCompletes : Prop :=
  ∀ (s : State) (c k : BitVec 4) (cur rst : CipherState), s.hasContext c → s.hasSlot k → s.context c = .ready cur rst →
    exec (.snapshot c k) s = .next ((s.setSnapshot k (some { cur := cur, rst := rst })).done (.snapshot c k) 0)

/-- RESTORE completes (40_contract.md R97) into an EMPTY context and into a READY one of the snapshot's engine; the slot
stays. -/
def Obligations.RestoreCompletes : Prop :=
  ∀ (s : State) (c k : BitVec 4) (snap : Snapshot), s.hasContext c → s.hasSlot k → s.snapshotAt k = some snap →
    (s.context c = .empty ∨ ∃ cur rst, s.context c = .ready cur rst ∧ cur.engine = snap.cur.engine) →
      exec (.restore c k) s = .next ((s.setContext c (.ready snap.cur snap.rst)).done (.restore c k) 0)

/-- DROP completes (40_contract.md R98) on an EMPTY, a READY and a DEAD context alike: the context is EMPTY, everything else
stays. -/
def Obligations.DropCompletes : Prop :=
  ∀ (s : State) (c : BitVec 4), s.hasContext c →
    exec (.drop c) s = .next ((s.setContext c .empty).done (.drop c) 0) ∧ (Context.empty).stat = 0

/-- 40_contract.md R101: after a SNAPSHOT of one context is restored into another, the two hold equal instances; and two
contexts that hold equal instances answer every command alike and hold equal instances again, so they do for every
sequence of commands: the same output bytes, the same RESULT, the same outcome in STATUS. The output range of a PROCESS that
succeeds is the same whatever `OBUF` held; a byte of `OBUF` that was the same stays the same, but for the range of a PROCESS
that ends in WORD_LIMIT, of which nothing is said (40_contract.md R92, 93 U3). -/
def Obligations.SnapshotEquivalence : Prop :=
  (∀ (s t u : State) (c d k : BitVec 4), s.Inv → exec (.snapshot c k) s = .next t → statusClass t.status = 0 →
    exec (.restore d k) t = .next u → statusClass u.status = 0 → Twins c d u u) ∧
  (∀ (i : Instr) (s s' t : State) (c d : BitVec 4), Twins c d s s' → exec (i.retarget c) s = .next t →
    ∃ t', exec (i.retarget d) s' = .next t' ∧ Twins c d t t' ∧ t.result = t'.result ∧
      statusClass t.status = statusClass t'.status ∧ statusCode t.status = statusCode t'.status ∧
      (i.IsProcess → statusClass t.status = 0 → ∀ a, s.outOff ≤ a → a < s.outOff + s.len →
        t.readByte .obuf a = t'.readByte .obuf a) ∧
      (∀ a, (i.IsProcess → statusClass t.status = 3 → a < s.outOff ∨ s.outOff + s.len ≤ a) →
        s.readByte .obuf a = s'.readByte .obuf a → t.readByte .obuf a = t'.readByte .obuf a))

/-! ### Whole-machine rules -/

/-- 10_state.md R39, R45 and 40_contract.md R105: only INIT reads `KEYBUF` and `IVBUF`; only PROCESS reads `IBUF` and the
argument registers; no command reads `OBUF`, a context it does not name or the model's counter of free values (log 3):
replacing what a command does not read changes only that very part of the next state. With other bytes in `OBUF` before it, a
PROCESS that succeeds leaves the same bytes in its range, and every other byte is left as it was. Of the bytes in the range
of a PROCESS that ends in WORD_LIMIT nothing is said (40_contract.md R92, log 2: `SameAfter` leaves them out). -/
def Obligations.CommandsReadOnlyTheirOperands : Prop :=
  ∀ (i : Instr) (s t : State), exec i s = .next t →
    (¬ i.IsInit → ∀ m m' : Memory, ∃ u,
      exec i { s with keybuf := m, ivbuf := m' } = .next u ∧ SameAfter i u { t with keybuf := m, ivbuf := m' }) ∧
    (¬ i.IsProcess → ∀ m : Memory, exec i { s with ibuf := m } = .next { t with ibuf := m }) ∧
    (¬ i.IsProcess → ∀ a b d : Word, exec i (s.withArgs a b d) = .next (t.withArgs a b d)) ∧
    (∀ m : Memory, ∃ u, exec i { s with obuf := m } = .next u ∧
      u = { t with obuf := u.obuf, freeCount := u.freeCount } ∧
      (i.IsProcess → statusClass t.status = 0 → ∀ a, s.outOff ≤ a → a < s.outOff + s.len →
        u.readByte .obuf a = t.readByte .obuf a) ∧
      (∀ a, (i.IsProcess → statusClass t.status ≠ 2 → a < s.outOff ∨ s.outOff + s.len ≤ a) →
        u.readByte .obuf a = ({ s with obuf := m } : State).readByte .obuf a)) ∧
    (∀ (d : BitVec 4) (x : Context), d ≠ i.ctxOf → ∃ u,
      exec i (s.setContext d x) = .next u ∧ SameAfter i u (t.setContext d x)) ∧
    (∀ n : Nat, ∃ u, exec i { s with freeCount := n } = .next u ∧ SameAfter i u t)

/-- 60_exceptions.md R192: commands on different contexts that do not share a slot commute as far as contexts and slots are
concerned. -/
def Obligations.CommandsOnDifferentContextsCommute : Prop :=
  ∀ (i j : Instr) (s t u t' u' : State), i.ctxOf ≠ j.ctxOf → (∀ k, i.slotOf = some k → j.slotOf ≠ some k) →
    exec i s = .next t → exec j t = .next u → exec j s = .next t' → exec i t' = .next u' →
      (∀ c, u.context c = u'.context c) ∧ (∀ k, u.snapshotAt k = u'.snapshotAt k)

/-- 10_state.md R29: PROCESS, RETBYTE and RESET never change the KeySchedule of a context. -/
def Obligations.KeyScheduleImmutable : Prop :=
  ∀ (i : Instr) (s t : State) (c : BitVec 4) (cur rst cur' rst' : CipherState), s.Inv →
    i.IsProcess ∨ (∃ d b, i = .retbyte d b) ∨ (∃ d, i = .reset d) →
    s.context c = .ready cur rst → exec i s = .next t → t.context c = .ready cur' rst' →
      cur'.keySchedule = cur.keySchedule ∧ rst' = rst

/-- 10_state.md R49 and 70_reset_and_hazards.md R193: the state after HRESET, for every configuration: every context EMPTY,
every slot NONE, every register 0, every `CTXSTAT` 0, the ROM tables those of the configuration. Of the bytes of the buffers
the rule states no value, and so does this. -/
def Obligations.HresetValues : Prop :=
  ∀ cfg : Config,
    let s := State.hreset cfg
    s.cfg = cfg ∧ s.ctx.length = cfg.nctx ∧ s.slot.length = cfg.nsnap ∧
    (∀ x ∈ s.ctx, x = .empty) ∧ (∀ x ∈ s.slot, x = none) ∧
    s.cmd = 0 ∧ s.status = 0 ∧ s.result = 0 ∧ s.arg0 = 0 ∧ s.arg1 = 0 ∧ s.arg2 = 0 ∧
    (∀ c, s.readReg (.ctxstat c) = 0)

/-- The state after reset satisfies the invariant of `Obligations.StepKeepsInvariant`. -/
def Obligations.ResetSatisfiesInvariant : Prop := State.reset.Inv

/-- Every step keeps the invariant: one instance and one reset image of the same engine and the same key in every READY
context and used slot, with the sizes and ranges of 10_state.md R25 to R34 (31-bit non-zero LFSR cells, the counter within
its limit, cursors within their buffers), memories in canonical form and within bounds, reserved fields of STATUS 0 and no
reserved code in it (10_state.md R40, 60_exceptions.md R181). -/
def Obligations.StepKeepsInvariant : Prop :=
  ∀ s t : State, s.Inv → step s = .next t → t.Inv

/-! ### Engines -/

/-- 41_lfsr_fsm.md R110 and R118: addition and multiplication by powers of two modulo `2^31 - 1`, and the feedback value: it
is the sum of that rule modulo `2^31 - 1` and never 0, so the test of `Shift` never succeeds. -/
def Obligations.LfsrArithmeticIsExact : Prop :=
  (∀ a b : Word, a.toNat < 2 ^ 31 → b.toNat < 2 ^ 31 →
    (add31 a b).toNat < 2 ^ 31 ∧ (add31 a b).toNat % (2 ^ 31 - 1) = (a.toNat + b.toNat) % (2 ^ 31 - 1) ∧
    (add31 a b = 0 ↔ a = 0 ∧ b = 0)) ∧
  (∀ (a : Word) (k : Nat), a.toNat < 2 ^ 31 → 0 < k → k < 31 →
    (rotl31 a k).toNat < 2 ^ 31 ∧ (rotl31 a k).toNat % (2 ^ 31 - 1) = (2 ^ k * a.toNat) % (2 ^ 31 - 1)) ∧
  (∀ (s : Vector Word 16) (u : Word), (∀ i : Fin 16, 0 < s[i].toNat ∧ s[i].toNat < 2 ^ 31) → u.toNat < 2 ^ 31 →
    (lfFeedback s).toNat % (2 ^ 31 - 1) =
      ((1 + 2 ^ 8) * s[0].toNat + 2 ^ 20 * s[4].toNat + 2 ^ 21 * s[10].toNat + 2 ^ 17 * s[13].toNat
        + 2 ^ 15 * s[15].toNat) % (2 ^ 31 - 1) ∧
    lfFeedback s ≠ 0 ∧ add31 (lfFeedback s) u ≠ 0)

/-- 42_counter.md R126, for the reference constants: the carry of each counter is the 33rd bit of its sum, so that the eight
counters with the carry are one long addition: old counters, constants and carry in make new counters and carry out. -/
def Obligations.CounterChainIsLongAddition : Prop :=
  (∀ (j : Fin 8) (old : Word) (b : Bool),
    ctrCarry old refRom.ctrA[j] b = decide (2 ^ 32 ≤ old.toNat + refRom.ctrA[j].toNat + b.toNat)) ∧
  (∀ (cnt : Vector Word 8) (b : Bool),
    let value (v : Vector Word 8) : Nat :=
      v[0].toNat + 2 ^ 32 * v[1].toNat + 2 ^ 64 * v[2].toNat + 2 ^ 96 * v[3].toNat + 2 ^ 128 * v[4].toNat
        + 2 ^ 160 * v[5].toNat + 2 ^ 192 * v[6].toNat + 2 ^ 224 * v[7].toNat
    value (ctrCounterUpdate refRom cnt b).1 + 2 ^ 256 * (ctrCounterUpdate refRom cnt b).2.toNat =
      value cnt + value refRom.ctrA + b.toNat)

/-- 43_serpent_derived.md R140, for the reference tables: division by α undoes multiplication by it, and the reverse. -/
def Obligations.AlphaDivisionInvertsMultiplication : Prop :=
  ∀ x : Word, srpDivA refRom (srpMulA refRom x) = x ∧ srpMulA refRom (srpDivA refRom x) = x

/-- 43_serpent_derived.md R138: the S-box layer works bit by bit: bit `i` of output word `j` is bit `j` of the table entry
that bit `i` of the four input words selects, the first word its least significant bit. -/
def Obligations.SboxLayerIsBitwise : Prop :=
  ∀ (rom : Rom) (n : Fin 8) (x : Vector Word 4) (j : Fin 4) (i : Nat), i < 32 →
    (srpSBox rom n x)[j].getLsbD i =
      (rom.srpSb[n][8 * (x[3].getLsbD i).toNat + 4 * (x[2].getLsbD i).toNat + 2 * (x[1].getLsbD i).toNat
        + (x[0].getLsbD i).toNat]!).getLsbD j

/-- 45_block_cipher.md R160, for the reference tables: for every key of an accepted length and every block, the transform
under the decryption subkeys inverts the one under the encryption subkeys, and the reverse. -/
def Obligations.BlockDecryptInvertsEncrypt : Prop :=
  ∀ key blk : List Byte, (key.length = 16 ∨ key.length = 24 ∨ key.length = 32) → blk.length = 16 →
    blkCrypt refRom (blkInit refRom key false) (blkCrypt refRom (blkInit refRom key true) blk) = blk ∧
    blkCrypt refRom (blkInit refRom key true) (blkCrypt refRom (blkInit refRom key false) blk) = blk

/-! ### The reset image -/

/-- 10_state.md R33 and 40_contract.md R102: the reset image of a context is kept by every step: from a state in which the
context holds an instance with reset image `rst`, or none any more, and no pending write to `CMD` holds a word of INIT or
RESTORE on it, every step leads to such a state. The steps serve the model's queue (log 4), in which HRESET is no event
(log 14). -/
def Obligations.StepKeepsResetImage : Prop :=
  ∀ (c : BitVec 4) (rst : CipherState) (s t : State), HoldsImage c rst s → step s = .next t → HoldsImage c rst t
end

