-- ==== Sys2Proof/Laws/State.lean ====
section
/-!
SUPPORT. One lemma per field per update of `State`, true by `rfl` (by cases on the memory for `withMem` and
`writeBytes`), so that no proof unfolds a record update.
-/

namespace Sys2Proof.Machine

section
variable (s : State)

/-! ### `State.latch` -/

@[simp] theorem latch_cfg (cw : Word) : (s.latch cw).cfg = s.cfg := rfl
@[simp] theorem latch_cmd (cw : Word) : (s.latch cw).cmd = cw := rfl
@[simp] theorem latch_status (cw : Word) : (s.latch cw).status = s.status := rfl
@[simp] theorem latch_result (cw : Word) : (s.latch cw).result = s.result := rfl
@[simp] theorem latch_arg0 (cw : Word) : (s.latch cw).arg0 = s.arg0 := rfl
@[simp] theorem latch_arg1 (cw : Word) : (s.latch cw).arg1 = s.arg1 := rfl
@[simp] theorem latch_arg2 (cw : Word) : (s.latch cw).arg2 = s.arg2 := rfl
@[simp] theorem latch_ctx (cw : Word) : (s.latch cw).ctx = s.ctx := rfl
@[simp] theorem latch_slot (cw : Word) : (s.latch cw).slot = s.slot := rfl
@[simp] theorem latch_keybuf (cw : Word) : (s.latch cw).keybuf = s.keybuf := rfl
@[simp] theorem latch_ivbuf (cw : Word) : (s.latch cw).ivbuf = s.ivbuf := rfl
@[simp] theorem latch_ibuf (cw : Word) : (s.latch cw).ibuf = s.ibuf := rfl
@[simp] theorem latch_obuf (cw : Word) : (s.latch cw).obuf = s.obuf := rfl
@[simp] theorem latch_pending (cw : Word) : (s.latch cw).pending = s.pending := rfl
@[simp] theorem latch_busData (cw : Word) : (s.latch cw).busData = s.busData := rfl
@[simp] theorem latch_freeCount (cw : Word) : (s.latch cw).freeCount = s.freeCount := rfl
@[simp] theorem latch_mem (cw : Word) (buf : Buffer) : (s.latch cw).mem buf = s.mem buf := by cases buf <;> rfl

/-! ### `State.report` -/

@[simp] theorem report_cfg (st res : Word) : (s.report st res).cfg = s.cfg := rfl
@[simp] theorem report_cmd (st res : Word) : (s.report st res).cmd = s.cmd := rfl
@[simp] theorem report_status (st res : Word) : (s.report st res).status = st := rfl
@[simp] theorem report_result (st res : Word) : (s.report st res).result = res := rfl
@[simp] theorem report_arg0 (st res : Word) : (s.report st res).arg0 = s.arg0 := rfl
@[simp] theorem report_arg1 (st res : Word) : (s.report st res).arg1 = s.arg1 := rfl
@[simp] theorem report_arg2 (st res : Word) : (s.report st res).arg2 = s.arg2 := rfl
@[simp] theorem report_ctx (st res : Word) : (s.report st res).ctx = s.ctx := rfl
@[simp] theorem report_slot (st res : Word) : (s.report st res).slot = s.slot := rfl
@[simp] theorem report_keybuf (st res : Word) : (s.report st res).keybuf = s.keybuf := rfl
@[simp] theorem report_ivbuf (st res : Word) : (s.report st res).ivbuf = s.ivbuf := rfl
@[simp] theorem report_ibuf (st res : Word) : (s.report st res).ibuf = s.ibuf := rfl
@[simp] theorem report_obuf (st res : Word) : (s.report st res).obuf = s.obuf := rfl
@[simp] theorem report_pending (st res : Word) : (s.report st res).pending = s.pending := rfl
@[simp] theorem report_busData (st res : Word) : (s.report st res).busData = s.busData := rfl
@[simp] theorem report_freeCount (st res : Word) : (s.report st res).freeCount = s.freeCount := rfl
@[simp] theorem report_mem (st res : Word) (buf : Buffer) : (s.report st res).mem buf = s.mem buf := by cases buf <;> rfl

/-! ### `State.setContext` -/

@[simp] theorem setContext_cfg (c : BitVec 4) (x : Context) : (s.setContext c x).cfg = s.cfg := rfl
@[simp] theorem setContext_cmd (c : BitVec 4) (x : Context) : (s.setContext c x).cmd = s.cmd := rfl
@[simp] theorem setContext_status (c : BitVec 4) (x : Context) : (s.setContext c x).status = s.status := rfl
@[simp] theorem setContext_result (c : BitVec 4) (x : Context) : (s.setContext c x).result = s.result := rfl
@[simp] theorem setContext_arg0 (c : BitVec 4) (x : Context) : (s.setContext c x).arg0 = s.arg0 := rfl
@[simp] theorem setContext_arg1 (c : BitVec 4) (x : Context) : (s.setContext c x).arg1 = s.arg1 := rfl
@[simp] theorem setContext_arg2 (c : BitVec 4) (x : Context) : (s.setContext c x).arg2 = s.arg2 := rfl
@[simp] theorem setContext_ctx (c : BitVec 4) (x : Context) : (s.setContext c x).ctx = s.ctx.set c.toNat x := rfl
@[simp] theorem setContext_slot (c : BitVec 4) (x : Context) : (s.setContext c x).slot = s.slot := rfl
@[simp] theorem setContext_keybuf (c : BitVec 4) (x : Context) : (s.setContext c x).keybuf = s.keybuf := rfl
@[simp] theorem setContext_ivbuf (c : BitVec 4) (x : Context) : (s.setContext c x).ivbuf = s.ivbuf := rfl
@[simp] theorem setContext_ibuf (c : BitVec 4) (x : Context) : (s.setContext c x).ibuf = s.ibuf := rfl
@[simp] theorem setContext_obuf (c : BitVec 4) (x : Context) : (s.setContext c x).obuf = s.obuf := rfl
@[simp] theorem setContext_pending (c : BitVec 4) (x : Context) : (s.setContext c x).pending = s.pending := rfl
@[simp] theorem setContext_busData (c : BitVec 4) (x : Context) : (s.setContext c x).busData = s.busData := rfl
@[simp] theorem setContext_freeCount (c : BitVec 4) (x : Context) : (s.setContext c x).freeCount = s.freeCount := rfl
@[simp] theorem setContext_mem (c : BitVec 4) (x : Context) (buf : Buffer) : (s.setContext c x).mem buf = s.mem buf := by cases buf <;> rfl

/-! ### `State.setSnapshot` -/

@[simp] theorem setSnapshot_cfg (k : BitVec 4) (x : Option Snapshot) : (s.setSnapshot k x).cfg = s.cfg := rfl
@[simp] theorem setSnapshot_cmd (k : BitVec 4) (x : Option Snapshot) : (s.setSnapshot k x).cmd = s.cmd := rfl
@[simp] theorem setSnapshot_status (k : BitVec 4) (x : Option Snapshot) : (s.setSnapshot k x).status = s.status := rfl
@[simp] theorem setSnapshot_result (k : BitVec 4) (x : Option Snapshot) : (s.setSnapshot k x).result = s.result := rfl
@[simp] theorem setSnapshot_arg0 (k : BitVec 4) (x : Option Snapshot) : (s.setSnapshot k x).arg0 = s.arg0 := rfl
@[simp] theorem setSnapshot_arg1 (k : BitVec 4) (x : Option Snapshot) : (s.setSnapshot k x).arg1 = s.arg1 := rfl
@[simp] theorem setSnapshot_arg2 (k : BitVec 4) (x : Option Snapshot) : (s.setSnapshot k x).arg2 = s.arg2 := rfl
@[simp] theorem setSnapshot_ctx (k : BitVec 4) (x : Option Snapshot) : (s.setSnapshot k x).ctx = s.ctx := rfl
@[simp] theorem setSnapshot_slot (k : BitVec 4) (x : Option Snapshot) : (s.setSnapshot k x).slot = s.slot.set k.toNat x := rfl
@[simp] theorem setSnapshot_keybuf (k : BitVec 4) (x : Option Snapshot) : (s.setSnapshot k x).keybuf = s.keybuf := rfl
@[simp] theorem setSnapshot_ivbuf (k : BitVec 4) (x : Option Snapshot) : (s.setSnapshot k x).ivbuf = s.ivbuf := rfl
@[simp] theorem setSnapshot_ibuf (k : BitVec 4) (x : Option Snapshot) : (s.setSnapshot k x).ibuf = s.ibuf := rfl
@[simp] theorem setSnapshot_obuf (k : BitVec 4) (x : Option Snapshot) : (s.setSnapshot k x).obuf = s.obuf := rfl
@[simp] theorem setSnapshot_pending (k : BitVec 4) (x : Option Snapshot) : (s.setSnapshot k x).pending = s.pending := rfl
@[simp] theorem setSnapshot_busData (k : BitVec 4) (x : Option Snapshot) : (s.setSnapshot k x).busData = s.busData := rfl
@[simp] theorem setSnapshot_freeCount (k : BitVec 4) (x : Option Snapshot) : (s.setSnapshot k x).freeCount = s.freeCount := rfl
@[simp] theorem setSnapshot_mem (k : BitVec 4) (x : Option Snapshot) (buf : Buffer) : (s.setSnapshot k x).mem buf = s.mem buf := by cases buf <;> rfl

/-! ### `State.withArgs` -/

@[simp] theorem withArgs_cfg (a b d : Word) : (s.withArgs a b d).cfg = s.cfg := rfl
@[simp] theorem withArgs_cmd (a b d : Word) : (s.withArgs a b d).cmd = s.cmd := rfl
@[simp] theorem withArgs_status (a b d : Word) : (s.withArgs a b d).status = s.status := rfl
@[simp] theorem withArgs_result (a b d : Word) : (s.withArgs a b d).result = s.result := rfl
@[simp] theorem withArgs_arg0 (a b d : Word) : (s.withArgs a b d).arg0 = a := rfl
@[simp] theorem withArgs_arg1 (a b d : Word) : (s.withArgs a b d).arg1 = b := rfl
@[simp] theorem withArgs_arg2 (a b d : Word) : (s.withArgs a b d).arg2 = d := rfl
@[simp] theorem withArgs_ctx (a b d : Word) : (s.withArgs a b d).ctx = s.ctx := rfl
@[simp] theorem withArgs_slot (a b d : Word) : (s.withArgs a b d).slot = s.slot := rfl
@[simp] theorem withArgs_keybuf (a b d : Word) : (s.withArgs a b d).keybuf = s.keybuf := rfl
@[simp] theorem withArgs_ivbuf (a b d : Word) : (s.withArgs a b d).ivbuf = s.ivbuf := rfl
@[simp] theorem withArgs_ibuf (a b d : Word) : (s.withArgs a b d).ibuf = s.ibuf := rfl
@[simp] theorem withArgs_obuf (a b d : Word) : (s.withArgs a b d).obuf = s.obuf := rfl
@[simp] theorem withArgs_pending (a b d : Word) : (s.withArgs a b d).pending = s.pending := rfl
@[simp] theorem withArgs_busData (a b d : Word) : (s.withArgs a b d).busData = s.busData := rfl
@[simp] theorem withArgs_freeCount (a b d : Word) : (s.withArgs a b d).freeCount = s.freeCount := rfl
@[simp] theorem withArgs_mem (a b d : Word) (buf : Buffer) : (s.withArgs a b d).mem buf = s.mem buf := by cases buf <;> rfl

/-! ### `State.withMem`, `State.writeBytes` and `State.leaveResidue` -/

@[simp] theorem withMem_cfg (buf : Buffer) (m : Memory) : (s.withMem buf m).cfg = s.cfg := by cases buf <;> rfl
@[simp] theorem withMem_cmd (buf : Buffer) (m : Memory) : (s.withMem buf m).cmd = s.cmd := by cases buf <;> rfl
@[simp] theorem withMem_status (buf : Buffer) (m : Memory) : (s.withMem buf m).status = s.status := by cases buf <;> rfl
@[simp] theorem withMem_result (buf : Buffer) (m : Memory) : (s.withMem buf m).result = s.result := by cases buf <;> rfl
@[simp] theorem withMem_arg0 (buf : Buffer) (m : Memory) : (s.withMem buf m).arg0 = s.arg0 := by cases buf <;> rfl
@[simp] theorem withMem_arg1 (buf : Buffer) (m : Memory) : (s.withMem buf m).arg1 = s.arg1 := by cases buf <;> rfl
@[simp] theorem withMem_arg2 (buf : Buffer) (m : Memory) : (s.withMem buf m).arg2 = s.arg2 := by cases buf <;> rfl
@[simp] theorem withMem_ctx (buf : Buffer) (m : Memory) : (s.withMem buf m).ctx = s.ctx := by cases buf <;> rfl
@[simp] theorem withMem_slot (buf : Buffer) (m : Memory) : (s.withMem buf m).slot = s.slot := by cases buf <;> rfl
@[simp] theorem withMem_pending (buf : Buffer) (m : Memory) : (s.withMem buf m).pending = s.pending := by cases buf <;> rfl
@[simp] theorem withMem_busData (buf : Buffer) (m : Memory) : (s.withMem buf m).busData = s.busData := by cases buf <;> rfl
@[simp] theorem withMem_freeCount (buf : Buffer) (m : Memory) : (s.withMem buf m).freeCount = s.freeCount := by cases buf <;> rfl
@[simp] theorem withMem_mem_same (buf : Buffer) (m : Memory) : (s.withMem buf m).mem buf = m := by cases buf <;> rfl
theorem withMem_mem_other {buf buf' : Buffer} (h : buf' ≠ buf) (m : Memory) :
    (s.withMem buf m).mem buf' = s.mem buf' := by
  cases buf <;> cases buf' <;> first | rfl | exact absurd rfl h

@[simp] theorem writeBytes_cfg (buf : Buffer) (base : Nat) (bs : List Byte) : (s.writeBytes buf base bs).cfg = s.cfg := withMem_cfg s buf _
@[simp] theorem writeBytes_cmd (buf : Buffer) (base : Nat) (bs : List Byte) : (s.writeBytes buf base bs).cmd = s.cmd := withMem_cmd s buf _
@[simp] theorem writeBytes_status (buf : Buffer) (base : Nat) (bs : List Byte) : (s.writeBytes buf base bs).status = s.status := withMem_status s buf _
@[simp] theorem writeBytes_result (buf : Buffer) (base : Nat) (bs : List Byte) : (s.writeBytes buf base bs).result = s.result := withMem_result s buf _
@[simp] theorem writeBytes_arg0 (buf : Buffer) (base : Nat) (bs : List Byte) : (s.writeBytes buf base bs).arg0 = s.arg0 := withMem_arg0 s buf _
@[simp] theorem writeBytes_arg1 (buf : Buffer) (base : Nat) (bs : List Byte) : (s.writeBytes buf base bs).arg1 = s.arg1 := withMem_arg1 s buf _
@[simp] theorem writeBytes_arg2 (buf : Buffer) (base : Nat) (bs : List Byte) : (s.writeBytes buf base bs).arg2 = s.arg2 := withMem_arg2 s buf _
@[simp] theorem writeBytes_ctx (buf : Buffer) (base : Nat) (bs : List Byte) : (s.writeBytes buf base bs).ctx = s.ctx := withMem_ctx s buf _
@[simp] theorem writeBytes_slot (buf : Buffer) (base : Nat) (bs : List Byte) : (s.writeBytes buf base bs).slot = s.slot := withMem_slot s buf _
@[simp] theorem writeBytes_pending (buf : Buffer) (base : Nat) (bs : List Byte) : (s.writeBytes buf base bs).pending = s.pending := withMem_pending s buf _
@[simp] theorem writeBytes_busData (buf : Buffer) (base : Nat) (bs : List Byte) : (s.writeBytes buf base bs).busData = s.busData := withMem_busData s buf _
@[simp] theorem writeBytes_freeCount (buf : Buffer) (base : Nat) (bs : List Byte) : (s.writeBytes buf base bs).freeCount = s.freeCount := withMem_freeCount s buf _
@[simp] theorem writeBytes_mem_same (buf : Buffer) (base : Nat) (bs : List Byte) :
    (s.writeBytes buf base bs).mem buf = (s.mem buf).write base bs := withMem_mem_same s buf _
theorem writeBytes_mem_other {buf buf' : Buffer} (h : buf' ≠ buf) (base : Nat) (bs : List Byte) :
    (s.writeBytes buf base bs).mem buf' = s.mem buf' := withMem_mem_other s h _
@[simp] theorem writeBytes_nil (buf : Buffer) (base : Nat) : s.writeBytes buf base [] = s := by cases buf <;> rfl

@[simp] theorem leaveResidue_cfg : s.leaveResidue.cfg = s.cfg := rfl
@[simp] theorem leaveResidue_cmd : s.leaveResidue.cmd = s.cmd := rfl
@[simp] theorem leaveResidue_status : s.leaveResidue.status = s.status := rfl
@[simp] theorem leaveResidue_result : s.leaveResidue.result = s.result := rfl
@[simp] theorem leaveResidue_arg0 : s.leaveResidue.arg0 = s.arg0 := rfl
@[simp] theorem leaveResidue_arg1 : s.leaveResidue.arg1 = s.arg1 := rfl
@[simp] theorem leaveResidue_arg2 : s.leaveResidue.arg2 = s.arg2 := rfl
@[simp] theorem leaveResidue_ctx : s.leaveResidue.ctx = s.ctx := rfl
@[simp] theorem leaveResidue_slot : s.leaveResidue.slot = s.slot := rfl
@[simp] theorem leaveResidue_keybuf : s.leaveResidue.keybuf = s.keybuf := rfl
@[simp] theorem leaveResidue_ivbuf : s.leaveResidue.ivbuf = s.ivbuf := rfl
@[simp] theorem leaveResidue_ibuf : s.leaveResidue.ibuf = s.ibuf := rfl
@[simp] theorem leaveResidue_pending : s.leaveResidue.pending = s.pending := rfl
@[simp] theorem leaveResidue_busData : s.leaveResidue.busData = s.busData := rfl
@[simp] theorem leaveResidue_freeCount : s.leaveResidue.freeCount = s.freeCount + 1 := rfl

/-! ### The successful and the failed outcome -/

theorem succeed_eq (result : Word) : s.succeed result = .next (s.report (okStatus s.cmd) result) := rfl

theorem raise_usage (e : UsageError) : s.raise (.usage e) = .next (s.report (errorStatus s.cmd (.usage e)) 0) := rfl

theorem raise_terminal (e : TerminalError) :
    s.raise (.terminal e) =
      .next ((s.setContext (ctxField s.cmd) (.dead e)).report (errorStatus s.cmd (.terminal e)) 0) := rfl

end

end Sys2Proof.Machine
end

