-- ==== Sys2Proof/Laws/Memory.lean ====
section
/-!
SUPPORT. The byte memories: a read after a write gives the value written, a write leaves every other address alone, and
every operation that changes a memory keeps its canonical form and its bounds.
-/

namespace Sys2Proof.Machine

theorem mem_cellsFrom {cell : Host.Cell} {base : Nat} {bs : List Byte} (h : cell ∈ cellsFrom base bs) :
    base ≤ cell.1 ∧ cell.1 < base + bs.length := by
  induction bs generalizing base with
  | nil => cases h
  | cons b bs ih =>
    rcases List.mem_cons.mp h with rfl | h
    · simp
    · have := ih h
      simp only [List.length_cons]
      omega

theorem cellsFrom_pairwise (base : Nat) (bs : List Byte) : (cellsFrom base bs).Pairwise (fun a b => a.1 < b.1) := by
  induction bs generalizing base with
  | nil => exact List.Pairwise.nil
  | cons b bs ih => exact List.pairwise_cons.mpr ⟨fun cell h => (mem_cellsFrom h).1, ih (base + 1)⟩

theorem read?_append (m m' : Memory) (a : Nat) :
    Memory.read? (m ++ m') a = (Memory.read? m a).or (Memory.read? m' a) := by
  simp only [Memory.read?, List.find?_append]
  cases m.find? (fun cell => cell.1 == a) <;> rfl

theorem read?_cellsFrom_outside (base : Nat) (bs : List Byte) (a : Nat) (h : a < base ∨ base + bs.length ≤ a) :
    Memory.read? (cellsFrom base bs) a = none := by
  induction bs generalizing base with
  | nil => rfl
  | cons b bs ih =>
    simp only [List.length_cons] at h
    have hne : ¬ base = a := by omega
    have := ih (base + 1) (by omega)
    simpa [Memory.read?, cellsFrom, hne] using this

theorem read?_cellsFrom_inside (base : Nat) (bs : List Byte) (i : Nat) (h : i < bs.length) :
    Memory.read? (cellsFrom base bs) (base + i) = some bs[i] := by
  induction bs generalizing base i with
  | nil => cases h
  | cons b bs ih =>
    cases i with
    | zero => simp [Memory.read?, cellsFrom]
    | succ i =>
      have := ih (base + 1) i (by simpa using h)
      have e : base + 1 + i = base + (i + 1) := by omega
      simpa [Memory.read?, cellsFrom, e] using this

theorem read?_filter (m : Memory) (p : Nat → Bool) (a : Nat) :
    Memory.read? (m.filter fun cell => p cell.1) a = if p a then Memory.read? m a else none := by
  induction m with
  | nil => simp [Memory.read?]
  | cons cell m ih =>
    simp only [Memory.read?] at ih ⊢
    by_cases hc : cell.1 = a
    · subst hc
      by_cases hp : p cell.1 = true
      · simp [hp]
      · simp only [Bool.not_eq_true] at hp
        simpa [hp] using ih
    · have hb : (cell.1 == a) = false := by simpa using hc
      by_cases hp : p cell.1 = true
      · simpa [hp, hb] using ih
      · simp only [Bool.not_eq_true] at hp
        simpa [hp, hb] using ih

/-- A write leaves every address outside its range alone (20_memory.md R53). -/
theorem read?_write_outside (m : Memory) (base : Nat) (bs : List Byte) (a : Nat)
    (h : a < base ∨ base + bs.length ≤ a) : (m.write base bs).read? a = m.read? a := by
  cases bs with
  | nil => rfl
  | cons b bs =>
    simp only [List.length_cons] at h
    simp only [Memory.write, read?_append, read?_cellsFrom_outside base (b :: bs) a (by simpa using h),
      read?_filter m (fun x => decide (x < base)), read?_filter m (fun x => decide (base + (bs.length + 1) ≤ x))]
    rcases h with h | h
    · have : ¬ base + (bs.length + 1) ≤ a := by omega
      simp [h, this]
    · have : ¬ a < base := by omega
      simp [h, this]

/-- A read after a write gives the byte written (00_scope.md R17). -/
theorem read?_write_inside (m : Memory) (base : Nat) (bs : List Byte) (i : Nat) (h : i < bs.length) :
    (m.write base bs).read? (base + i) = some bs[i] := by
  cases bs with
  | nil => cases h
  | cons b bs =>
    have hlt : ¬ base + i < base := by omega
    simp [Memory.write, read?_append, read?_cellsFrom_inside base (b :: bs) i h,
      read?_filter m (fun x => decide (x < base)), hlt]

/-- A write keeps the canonical form. -/
theorem write_wf {m : Memory} (h : m.wf) (base : Nat) (bs : List Byte) : (m.write base bs).wf := by
  cases bs with
  | nil => exact h
  | cons b bs =>
    refine List.pairwise_append.mpr ⟨List.pairwise_append.mpr ⟨h.filter _, cellsFrom_pairwise _ _, ?_⟩, h.filter _, ?_⟩
    · intro x hx y hy
      have h1 : x.1 < base := by simpa using (List.mem_filter.mp hx).2
      have h2 := (mem_cellsFrom hy).1
      omega
    · intro x hx y hy
      have h2 : base + (bs.length + 1) ≤ y.1 := by simpa using (List.mem_filter.mp hy).2
      rcases List.mem_append.mp hx with hx | hx
      · have h1 : x.1 < base := by simpa using (List.mem_filter.mp hx).2
        omega
      · have h1 := (mem_cellsFrom hx).2
        simp only [List.length_cons] at h1
        omega

/-- A write puts no byte beyond its range. -/
theorem mem_write {m : Memory} {base : Nat} {bs : List Byte} {cell : Host.Cell} (h : cell ∈ m.write base bs) :
    cell ∈ m ∨ (base ≤ cell.1 ∧ cell.1 < base + bs.length) := by
  cases bs with
  | nil => exact .inl h
  | cons b bs =>
    rcases List.mem_append.mp h with h | h
    · rcases List.mem_append.mp h with h | h
      · exact .inl (List.mem_filter.mp h).1
      · exact .inr (mem_cellsFrom h)
    · exact .inl (List.mem_filter.mp h).1

section
variable (s : State)

theorem readByte_congr {s t : State} {buf : Buffer} (h : s.mem buf = t.mem buf) (a : Nat) :
    s.readByte buf a = t.readByte buf a := by
  simp only [State.readByte, h]

/-- `State.writeBytes` leaves every byte outside its range alone. -/
theorem readByte_writeBytes_outside (buf : Buffer) (base : Nat) (bs : List Byte) (a : Nat)
    (h : a < base ∨ base + bs.length ≤ a) : (s.writeBytes buf base bs).readByte buf a = s.readByte buf a := by
  simp only [State.readByte, writeBytes_mem_same, read?_write_outside _ _ _ _ h]

/-- A byte read after `State.writeBytes` is the byte written. -/
theorem readByte_writeBytes_inside (buf : Buffer) (base : Nat) (bs : List Byte) (i : Nat) (h : i < bs.length) :
    (s.writeBytes buf base bs).readByte buf (base + i) = bs[i] := by
  simp only [State.readByte, writeBytes_mem_same, read?_write_inside _ _ _ _ h]

/-- `State.writeBytes` touches one memory only. -/
theorem readByte_writeBytes_other {buf buf' : Buffer} (hne : buf' ≠ buf) (base : Nat) (bs : List Byte) (a : Nat) :
    (s.writeBytes buf base bs).readByte buf' a = s.readByte buf' a :=
  readByte_congr (writeBytes_mem_other s hne base bs) a

@[simp] theorem readBytes_length (buf : Buffer) (base n : Nat) : (s.readBytes buf base n).length = n := by
  simp [State.readBytes]

/-- What `leaveResidue` does to OBUF: free values in the range. -/
theorem leaveResidue_eq : s.leaveResidue =
    { s.writeBytes .obuf s.outOff ((List.range s.len).map fun i => Config.residueByte s.freeCount (s.outOff + i)) with
      freeCount := s.freeCount + 1 } := rfl

/-- `leaveResidue` leaves every byte of OBUF outside the range of the command alone (40_contract.md R92). -/
theorem readByte_leaveResidue_outside (a : Nat) (h : a < s.outOff ∨ s.outOff + s.len ≤ a) :
    s.leaveResidue.readByte .obuf a = s.readByte .obuf a :=
  readByte_writeBytes_outside s .obuf s.outOff _ a (by simpa using h)

end

/-- The memories of the state after HRESET have the canonical form. -/
theorem hreset_mem_wf (cfg : Config) (buf : Buffer) : ((State.hreset cfg).mem buf).wf := by
  cases buf <;> exact List.Pairwise.nil

/-- The memories of `State.reset` have the canonical form. -/
theorem reset_mem_wf (buf : Buffer) : (State.reset.mem buf).wf := hreset_mem_wf refConfig buf

end Sys2Proof.Machine
end

