-- ==== Sys2Proof/Laws/Bus.lean ====
section
/-!
SUPPORT. The bus: which window an offset lies in, where an access of a register or of a window goes, and the little-endian
composition of bytes (20_memory.md R55, R57).
-/

namespace Sys2Proof.Machine

theorem regionSize_eq : regionSize = 196608 := rfl

/-- The windows, with their offsets as numbers. -/
theorem bufferAt_eq (cfg : Config) (off : Nat) : bufferAt cfg off =
    if 128 ≤ off ∧ off < 128 + cfg.keybufSize then some .keybuf
    else if 160 ≤ off ∧ off < 160 + cfg.ivbufSize then some .ivbuf
    else if 65536 ≤ off ∧ off < 65536 + cfg.ibufSize then some .ibuf
    else if 131072 ≤ off ∧ off < 131072 + cfg.obufSize then some .obuf else none := rfl

/-- An aligned 32-bit access below the windows goes to the register at its offset. -/
theorem locate_reg (cfg : Config) (off : Nat) (r : Reg) (h : off < 0x80) (h4 : off % 4 = 0) (hr : regAt off = some r) :
    locate cfg (cfg.coreBase + off) 4 = .at (.reg r) := by
  have h1 : ¬ (cfg.coreBase + off < cfg.coreBase ∨ cfg.coreBase + regionSize ≤ cfg.coreBase + off) := by
    rw [regionSize_eq]; omega
  have h2 : bufferAt cfg off = none := by
    rw [bufferAt_eq]; repeat (rw [if_neg (by omega)])
  rw [locate, if_neg h1]
  simp [targetAt, h2, hr, h4]

/-- An access of `CMD` reaches `CMD` (10_state.md R38). -/
theorem locate_cmd (cfg : Config) : locate cfg cfg.coreBase 4 = .at (.reg .cmd) := locate_reg cfg 0 .cmd (by omega) rfl rfl

/-- Only a 32-bit access at `CORE_BASE` reaches `CMD` (10_state.md R38). -/
theorem locate_cmd_only {cfg : Config} {addr size : Nat} (h : locate cfg addr size = .at (.reg .cmd)) :
    addr = cfg.coreBase ∧ size = 4 := by
  unfold locate at h
  split at h; · cases h
  split at h; · cases h
  split at h; · cases h
  unfold targetAt at h
  split at h
  · rename_i t ht
    split at ht
    · split at ht <;> cases ht
      cases h
    · split at ht
      · rename_i r hr
        split at ht
        · rename_i hsize
          cases ht
          cases h
          subst hsize
          unfold regAt at hr
          split at hr
          · omega
          repeat (first | (split at hr; cases hr) | cases hr)
        · cases ht
      · cases ht
        cases h
  · cases h

/-- An access below CORE's region goes nowhere (20_memory.md R55, log 9). -/
theorem locate_below {cfg : Config} {addr : Nat} (h : addr < cfg.coreBase) (size : Nat) : locate cfg addr size = .outside :=
  if_pos (.inl h)

/-- Where `CTXSTAT[c]` stands (10_state.md R44). -/
theorem regAt_ctxstat (c : BitVec 4) : regAt (0x20 + 4 * c.toNat) = some (.ctxstat c.toNat) := by
  have := c.isLt
  simp only [regAt]
  repeat (rw [if_neg (by omega)])
  rw [if_pos (by omega)]
  congr 2
  omega

/-- Composed bytes are a number of their size. -/
theorem composeLe_lt (bs : List Byte) : composeLe bs < 256 ^ bs.length := by
  induction bs with
  | nil => simp [composeLe]
  | cons b bs ih => simp only [composeLe, List.length_cons, Nat.pow_succ]; have := b.isLt; omega

/-- Byte `k` of composed bytes. -/
theorem composeLe_byte (bs : List Byte) (k : Nat) (h : k < bs.length) : composeLe bs / 2 ^ (8*k) % 256 = bs[k].toNat := by
  induction bs generalizing k with
  | nil => cases h
  | cons b bs ih =>
    have := b.isLt
    cases k with
    | zero => simp [composeLe]; omega
    | succ k =>
      have := ih k (by simpa using h)
      simp only [composeLe, List.getElem_cons_succ]
      rw [← this, show 2 ^ (8 * (k+1)) = 256 * 2 ^ (8*k) by rw [Nat.mul_add, Nat.pow_add, Nat.mul_comm], ← Nat.div_div_eq_div_mul]
      congr 2; omega

@[simp] theorem splitLe_length (v : Word) (n : Nat) : (splitLe v n).length = n := by
  induction n generalizing v with
  | zero => rfl
  | succ n ih => simp [splitLe, ih]

/-- Byte `k` of a split value. -/
theorem splitLe_get (v : Word) (n k : Nat) (h : k < (splitLe v n).length) : (splitLe v n)[k] = v.extractLsb' (8 * k) 8 := by
  induction n generalizing v k with
  | zero => simp [splitLe] at h
  | succ n ih =>
    cases k with
    | zero => rfl
    | succ k =>
      simp only [splitLe, List.getElem_cons_succ]
      rw [ih]
      apply BitVec.eq_of_getLsbD_eq
      intro j hj
      simp only [BitVec.getLsbD_extractLsb', BitVec.getLsbD_ushiftRight]
      congr 2
      omega

/-- An aligned access inside a buffer window goes to the bytes it covers (20_memory.md R55, R57). -/
theorem locate_window (cfg : Config) (buf : Buffer) (base i size : Nat) (hI : cfg.InRange)
    (hb : (buf, base) ∈ [(Buffer.keybuf, 0x80), (Buffer.ivbuf, 0xA0), (Buffer.ibuf, 0x10000), (Buffer.obuf, 0x20000)])
    (hs : size = 1 ∨ size = 2 ∨ size = 4) (hi : i % size = 0) (hf : i + size ≤ cfg.size buf) :
    locate cfg (cfg.coreBase + (base + i)) size = .at (.window buf i) := by
  obtain ⟨_, _, _, _, a5, a6, a7, a8, a9, a10, _, _⟩ := hI
  have hw : windowBase buf = base := by simp at hb; rcases hb with ⟨rfl, rfl⟩ | ⟨rfl, rfl⟩ | ⟨rfl, rfl⟩ | ⟨rfl, rfl⟩ <;> rfl
  have hbuf : bufferAt cfg (base + i) = some buf := by
    have hp : 0 < size := by omega
    simp only [List.mem_cons, Prod.mk.injEq, List.not_mem_nil, or_false] at hb
    rcases hb with ⟨rfl, rfl⟩ | ⟨rfl, rfl⟩ | ⟨rfl, rfl⟩ | ⟨rfl, rfl⟩ <;> simp only [Config.size] at hf <;> rw [bufferAt_eq]
    · rw [if_pos (by omega)]
    · rw [if_neg (by omega), if_pos (by omega)]
    · rw [if_neg (by omega), if_neg (by omega), if_pos (by omega)]
    · rw [if_neg (by omega), if_neg (by omega), if_neg (by omega), if_pos (by omega)]
  have hr : ¬ (cfg.coreBase + (base + i) < cfg.coreBase ∨ cfg.coreBase + regionSize ≤ cfg.coreBase + (base + i)) := by
    have hsz : 0 < size := by omega
    simp at hb; rcases hb with ⟨rfl, rfl⟩ | ⟨rfl, rfl⟩ | ⟨rfl, rfl⟩ | ⟨rfl, rfl⟩ <;> simp only [Config.size] at hf <;> rw [regionSize_eq] <;> omega
  have hal : (base + i) % size = 0 := by
    simp at hb; rcases hb with ⟨rfl, rfl⟩ | ⟨rfl, rfl⟩ | ⟨rfl, rfl⟩ | ⟨rfl, rfl⟩ <;> rcases hs with rfl | rfl | rfl <;> omega
  have hsub : cfg.coreBase + (base + i) - cfg.coreBase = base + i := by omega
  rw [locate, if_neg hr, if_neg (not_not.mpr hs), hsub, if_neg (by simp [hal])]
  simp only [targetAt, hbuf, hw]
  rw [if_pos (by omega)]
  simp

end Sys2Proof.Machine
end

