-- ==== Sys2Proof/Laws/Encoding.lean ====
section
/-!
SUPPORT. The bits of an encoded command, one lemma per format (30_encoding.md R71), and the two fields every format has.
-/

namespace Sys2Proof

/-- Bit `j` of a format Z word. -/
theorem getLsbD_encodeZ (op c : BitVec 4) (j : Nat) :
    (encodeZ op c).getLsbD j =
      if j < 24 then (0#24).getLsbD j else if j - 24 < 4 then c.getLsbD (j - 24) else op.getLsbD (j - 24 - 4) :=
  (BitVec.getLsbD_append (x := op ++ c) (y := 0#24)).trans (by rw [BitVec.getLsbD_append])

/-- Bit `j` of a format B word. -/
theorem getLsbD_encodeB (op c : BitVec 4) (b : Byte) (j : Nat) :
    (encodeB op c b).getLsbD j =
      if j < 8 then b.getLsbD j
      else if j - 8 < 16 then (0#16).getLsbD (j - 8)
      else if j - 8 - 16 < 4 then c.getLsbD (j - 8 - 16) else op.getLsbD (j - 8 - 16 - 4) :=
  (BitVec.getLsbD_append (x := op ++ c ++ 0#16) (y := b)).trans
    (by rw [BitVec.getLsbD_append, BitVec.getLsbD_append])

/-- Bit `j` of a format S word. -/
theorem getLsbD_encodeS (op c k : BitVec 4) (j : Nat) :
    (encodeS op c k).getLsbD j =
      if j < 20 then (0#20).getLsbD j
      else if j - 20 < 4 then k.getLsbD (j - 20)
      else if j - 20 - 4 < 4 then c.getLsbD (j - 20 - 4) else op.getLsbD (j - 20 - 4 - 4) :=
  (BitVec.getLsbD_append (x := op ++ c ++ k) (y := 0#20)).trans
    (by rw [BitVec.getLsbD_append, BitVec.getLsbD_append])

/-- Bit `j` of a format I word. -/
theorem getLsbD_encodeInit (eng : Engine) (c : BitVec 4) (a : InitOperands) (j : Nat) :
    (encodeInit eng c a).getLsbD j =
      if j < 8 then a.ivlen.getLsbD j
      else if j - 8 < 8 then a.klen.getLsbD (j - 8)
      else if j - 8 - 8 < 1 then (0#1).getLsbD (j - 8 - 8)
      else if j - 8 - 8 - 1 < 1 then (BitVec.ofBool a.hasIv).getLsbD (j - 8 - 8 - 1)
      else if j - 8 - 8 - 1 - 1 < 1 then (BitVec.ofBool a.hasKey).getLsbD (j - 8 - 8 - 1 - 1)
      else if j - 8 - 8 - 1 - 1 - 1 < 1 then (BitVec.ofBool a.dir).getLsbD (j - 8 - 8 - 1 - 1 - 1)
      else if j - 8 - 8 - 1 - 1 - 1 - 1 < 4 then eng.id.getLsbD (j - 8 - 8 - 1 - 1 - 1 - 1)
      else if j - 8 - 8 - 1 - 1 - 1 - 1 - 4 < 4 then c.getLsbD (j - 8 - 8 - 1 - 1 - 1 - 1 - 4)
      else (1#4).getLsbD (j - 8 - 8 - 1 - 1 - 1 - 1 - 4 - 4) :=
  (BitVec.getLsbD_append (x := 1#4 ++ c ++ eng.id ++ BitVec.ofBool a.dir ++ BitVec.ofBool a.hasKey
      ++ BitVec.ofBool a.hasIv ++ 0#1 ++ a.klen) (y := a.ivlen)).trans
    (by simp only [BitVec.getLsbD_append])

/-- The four bits of a field, bit by bit. -/
theorem eq_of_four_bits {x y : BitVec 4} (h0 : x.getLsbD 0 = y.getLsbD 0) (h1 : x.getLsbD 1 = y.getLsbD 1)
    (h2 : x.getLsbD 2 = y.getLsbD 2) (h3 : x.getLsbD 3 = y.getLsbD 3) : x = y := by
  apply BitVec.eq_of_getLsbD_eq
  intro j hj
  rcases (by omega : j = 0 ∨ j = 1 ∨ j = 2 ∨ j = 3) with rfl | rfl | rfl | rfl <;> assumption

/-- `CTX` of an encoded command is its context operand. -/
theorem ctxField_encode (i : Instr) : ctxField (encode i) = i.ctxOf := by
  cases i <;> apply eq_of_four_bits <;>
    simp only [ctxField, encode, BitVec.getLsbD_extractLsb', getLsbD_encodeZ, getLsbD_encodeB, getLsbD_encodeS,
      getLsbD_encodeInit] <;> rfl

/-- `OP` of an encoded command (30_encoding.md R75). -/
theorem opField_encode (i : Instr) :
    opField (encode i) = match i with
      | .initLf128 _ _ | .initLf256 _ _ | .initCtr _ _ | .initSrp _ _ | .initBlk _ _ => 1
      | .process _ => 2
      | .retbyte _ _ => 3
      | .reset _ => 4
      | .snapshot _ _ => 5
      | .restore _ _ => 6
      | .drop _ => 7 := by
  cases i <;> apply eq_of_four_bits <;>
    simp only [opField, encode, BitVec.getLsbD_extractLsb', getLsbD_encodeZ, getLsbD_encodeB, getLsbD_encodeS,
      getLsbD_encodeInit] <;> rfl

/-- The context operand of INIT of any engine. -/
theorem ctxOf_initOf (eng : Engine) (c : BitVec 4) (a : InitOperands) : (initOf eng c a).ctxOf = c := by
  cases eng <;> rfl

end Sys2Proof
end

