-- ==== Sys2Proof/Laws/Ops.lean ====
section
/-!
SUPPORT. What each shared operation can do, said once: the common part of a command, the lifecycle and index checks, the
reads and writes of contexts and slots, and the shared bodies of INIT and PROCESS.
-/

namespace Sys2Proof.Machine

section
variable (s : State)

/-! ### Contexts and slots -/

theorem context_setContext_same {c : BitVec 4} (h : c.toNat < s.ctx.length) (x : Context) :
    (s.setContext c x).context c = x := by
  simp [State.context, List.getD_eq_getElem?_getD, h]

theorem context_setContext_ne {c d : BitVec 4} (h : d ≠ c) (x : Context) : (s.setContext c x).context d = s.context d := by
  have : ¬ c.toNat = d.toNat := fun e => h (BitVec.eq_of_toNat_eq e.symm)
  simp [State.context, List.getD_eq_getElem?_getD, this]

/-- Writing back the value a context has changes nothing. -/
theorem setContext_context (c : BitVec 4) : s.setContext c (s.context c) = s := by
  have h : s.ctx.set c.toNat (s.ctx.getD c.toNat .empty) = s.ctx := by
    by_cases hc : c.toNat < s.ctx.length
    · rw [List.getD_eq_getElem _ _ hc, List.set_getElem_self]
    · exact List.set_eq_of_length_le (by omega)
  simp only [State.setContext, State.context, h]

theorem setContext_setContext_same (c : BitVec 4) (x y : Context) :
    (s.setContext c x).setContext c y = s.setContext c y := by
  simp [State.setContext]

theorem setContext_comm {c d : BitVec 4} (h : d ≠ c) (x y : Context) :
    (s.setContext c x).setContext d y = (s.setContext d y).setContext c x := by
  have : c.toNat ≠ d.toNat := fun e => h (BitVec.eq_of_toNat_eq e.symm)
  simp [State.setContext, List.set_comm _ _ this]

theorem snapshotAt_setSnapshot_same {k : BitVec 4} (h : k.toNat < s.slot.length) (x : Option Snapshot) :
    (s.setSnapshot k x).snapshotAt k = x := by
  simp [State.snapshotAt, List.getD_eq_getElem?_getD, h]

theorem snapshotAt_setSnapshot_ne {k l : BitVec 4} (h : l ≠ k) (x : Option Snapshot) :
    (s.setSnapshot k x).snapshotAt l = s.snapshotAt l := by
  have : ¬ k.toNat = l.toNat := fun e => h (BitVec.eq_of_toNat_eq e.symm)
  simp [State.snapshotAt, List.getD_eq_getElem?_getD, this]

@[simp] theorem latch_context (cw : Word) (c : BitVec 4) : (s.latch cw).context c = s.context c := rfl
@[simp] theorem latch_snapshotAt (cw : Word) (k : BitVec 4) : (s.latch cw).snapshotAt k = s.snapshotAt k := rfl
@[simp] theorem report_context (st res : Word) (c : BitVec 4) : (s.report st res).context c = s.context c := rfl
@[simp] theorem report_snapshotAt (st res : Word) (k : BitVec 4) : (s.report st res).snapshotAt k = s.snapshotAt k := rfl
@[simp] theorem setSnapshot_context (k : BitVec 4) (x : Option Snapshot) (c : BitVec 4) :
    (s.setSnapshot k x).context c = s.context c := rfl
@[simp] theorem setContext_snapshotAt (c : BitVec 4) (x : Context) (k : BitVec 4) :
    (s.setContext c x).snapshotAt k = s.snapshotAt k := rfl
@[simp] theorem writeBytes_context (buf : Buffer) (base : Nat) (bs : List Byte) (c : BitVec 4) :
    (s.writeBytes buf base bs).context c = s.context c := by simp [State.context]
@[simp] theorem writeBytes_snapshotAt (buf : Buffer) (base : Nat) (bs : List Byte) (k : BitVec 4) :
    (s.writeBytes buf base bs).snapshotAt k = s.snapshotAt k := by simp [State.snapshotAt]
@[simp] theorem leaveResidue_context (c : BitVec 4) : s.leaveResidue.context c = s.context c := rfl
@[simp] theorem withArgs_context (a b d : Word) (c : BitVec 4) : (s.withArgs a b d).context c = s.context c := rfl

@[simp] theorem latch_readByte (cw : Word) (buf : Buffer) (a : Nat) : (s.latch cw).readByte buf a = s.readByte buf a :=
  readByte_congr (latch_mem s cw buf) a
@[simp] theorem report_readByte (st res : Word) (buf : Buffer) (a : Nat) :
    (s.report st res).readByte buf a = s.readByte buf a := readByte_congr (report_mem s st res buf) a
@[simp] theorem setContext_readByte (c : BitVec 4) (x : Context) (buf : Buffer) (a : Nat) :
    (s.setContext c x).readByte buf a = s.readByte buf a := readByte_congr (setContext_mem s c x buf) a
@[simp] theorem setSnapshot_readByte (k : BitVec 4) (x : Option Snapshot) (buf : Buffer) (a : Nat) :
    (s.setSnapshot k x).readByte buf a = s.readByte buf a := readByte_congr (setSnapshot_mem s k x buf) a
@[simp] theorem withArgs_readByte (a b d : Word) (buf : Buffer) (i : Nat) :
    (s.withArgs a b d).readByte buf i = s.readByte buf i := readByte_congr (withArgs_mem s a b d buf) i
@[simp] theorem latch_readBytes (cw : Word) (buf : Buffer) (base n : Nat) :
    (s.latch cw).readBytes buf base n = s.readBytes buf base n := by simp [State.readBytes]

/-! ### The common part of a command -/

/-- A command on an existing context runs its own part on the state with `CMD` latched. -/
theorem onContext_of_lt (i : Instr) {c : BitVec 4} (body : State → Context → Out) (h : s.hasContext c) :
    onContext i c s body = body (s.latch (encode i)) (s.context c) :=
  if_neg (Nat.not_le.mpr h)

/-- A command on a context that does not exist ends in BAD_INDEX. -/
theorem onContext_of_ge (i : Instr) {c : BitVec 4} (body : State → Context → Out) (h : ¬ s.hasContext c) :
    onContext i c s body = .next (s.refusedWith i .badIndex) :=
  if_pos (Nat.not_lt.mp h)

/-- The two things the common part can do. -/
theorem onContext_cases (i : Instr) (c : BitVec 4) (body : State → Context → Out) :
    (s.hasContext c ∧ onContext i c s body = body (s.latch (encode i)) (s.context c)) ∨
    (¬ s.hasContext c ∧ onContext i c s body = .next (s.refusedWith i .badIndex)) :=
  (em (s.hasContext c)).imp (fun h => ⟨h, onContext_of_lt s i body h⟩) fun h => ⟨h, onContext_of_ge s i body h⟩

/-- Raising a usage error inside the latched command `i`. -/
theorem raise_usage_latch (i : Instr) (e : UsageError) :
    (s.latch (encode i)).raise (.usage e) = .next (s.refusedWith i e) := rfl

/-- Raising a terminal error inside the latched command `i` on its context. -/
theorem raise_terminal_latch (i : Instr) (e : TerminalError) :
    (s.latch (encode i)).raise (.terminal e) = .next (s.killedWith i i.ctxOf e) := by
  simp only [raise_terminal, latch_cmd, ctxField_encode, State.killedWith]

/-- Success inside the latched command `i`. -/
theorem succeed_latch (i : Instr) (result : Word) : (s.latch (encode i)).succeed result = .next (s.done i result) := rfl

/-- The three things the READY check can do. -/
theorem needReady_cases (x : Context) (body : CipherState → CipherState → Out) :
    (∃ e, x = .dead e ∧ needReady s x body = s.raise (.usage .deadCtx)) ∨
    (x = .empty ∧ needReady s x body = s.raise (.usage .notInit)) ∨
    (∃ cur rst, x = .ready cur rst ∧ needReady s x body = body cur rst) := by
  cases x with
  | empty => exact .inr (.inl ⟨rfl, rfl⟩)
  | ready cur rst => exact .inr (.inr ⟨cur, rst, rfl, rfl⟩)
  | dead e => exact .inl ⟨e, rfl, rfl⟩

/-- The two things the slot check can do. -/
theorem needSlot_cases (k : BitVec 4) (body : Out) :
    (s.hasSlot k ∧ needSlot s k body = body) ∨ (¬ s.hasSlot k ∧ needSlot s k body = s.raise (.usage .badIndex)) :=
  (em (s.hasSlot k)).imp (fun h => ⟨h, if_neg (Nat.not_le.mpr h)⟩) fun h => ⟨h, if_pos (Nat.not_lt.mp h)⟩

/-! ### INIT and PROCESS -/

/-- The four things INIT can do (40_contract.md R84). -/
theorem initCommand_cases (eng : Engine) (c : BitVec 4) (a : InitOperands) (setup : State → CipherState) :
    (¬ s.hasContext c ∧ initCommand eng c a s setup = .next (s.refusedWith (initOf eng c a) .badIndex)) ∨
    (s.hasContext c ∧ (∃ e, s.context c = .dead e) ∧
      initCommand eng c a s setup = .next (s.refusedWith (initOf eng c a) .deadCtx)) ∨
    (s.hasContext c ∧ (s.context c).Alive ∧ ∃ e, configCheck eng a = some e ∧
      initCommand eng c a s setup = .next (s.killedWith (initOf eng c a) c (.config e))) ∨
    (s.hasContext c ∧ (s.context c).Alive ∧ configCheck eng a = none ∧
      initCommand eng c a s setup =
        .next ((s.setContext c (.ready (setup (s.latch (encode (initOf eng c a))))
          (setup (s.latch (encode (initOf eng c a)))))).done (initOf eng c a) 0)) := by
  by_cases hc : s.hasContext c
  · rw [initCommand, onContext_of_lt s _ _ hc]
    cases hx : s.context c with
    | dead e => exact .inr (.inl ⟨hc, ⟨e, rfl⟩, rfl⟩)
    | empty =>
      cases hk : configCheck eng a with
      | some e =>
        refine .inr (.inr (.inl ⟨hc, by simp [Context.Alive], e, rfl, ?_⟩))
        simp only [raise_terminal_latch, ctxOf_initOf]
      | none => exact .inr (.inr (.inr ⟨hc, by simp [Context.Alive], rfl, rfl⟩))
    | ready cur rst =>
      cases hk : configCheck eng a with
      | some e =>
        refine .inr (.inr (.inl ⟨hc, by simp [Context.Alive], e, rfl, ?_⟩))
        simp only [raise_terminal_latch, ctxOf_initOf]
      | none => exact .inr (.inr (.inr ⟨hc, by simp [Context.Alive], rfl, rfl⟩))
  · exact .inl ⟨hc, onContext_of_ge s _ _ hc⟩

/-- PROCESS on a stream engine that meets no word limit. -/
theorem processStream_some (c : BitVec 4) {st st' : StreamState} {ks : List Byte} (rst : CipherState)
    (h : takeBytes s.cfg s.len st = some (ks, st')) :
    processStream c s st rst =
      ((s.writeBytes .obuf s.outOff (xorBytes s.inputBytes ks)).setContext c (.ready (.stream st') rst)).succeed s.arg1 := by
  simp only [processStream, h]

/-- PROCESS on a stream engine that meets the word limit. -/
theorem processStream_none (c : BitVec 4) {st : StreamState} (rst : CipherState) (h : takeBytes s.cfg s.len st = none) :
    processStream c s st rst = s.leaveResidue.raise (.terminal (.exhausted .wordLimit)) := by
  simp only [processStream, h]

end

/-! ### Keystream bytes -/

@[simp] theorem takeBytes_zero (cfg : Config) (st : StreamState) : takeBytes cfg 0 st = some ([], st) := rfl

theorem takeBytes_succ_some {cfg : Config} {n : Nat} {st st' st'' : StreamState} {b : Byte} {bs : List Byte}
    (h : nextByte cfg st = some (b, st')) (h' : takeBytes cfg n st' = some (bs, st'')) :
    takeBytes cfg (n + 1) st = some (b :: bs, st'') := by
  simp only [takeBytes, h, h']

/-- How `n + 1` keystream bytes come about. -/
theorem takeBytes_succ_cases {cfg : Config} {n : Nat} {st st'' : StreamState} {out : List Byte}
    (h : takeBytes cfg (n + 1) st = some (out, st'')) :
    ∃ b st' bs, nextByte cfg st = some (b, st') ∧ takeBytes cfg n st' = some (bs, st'') ∧ out = b :: bs := by
  simp only [takeBytes] at h
  split at h
  · cases h
  · rename_i b st' hb
    split at h
    · cases h
    · rename_i bs st1 hr
      cases h
      exact ⟨b, st', bs, hb, hr, rfl⟩

/-- As many bytes are taken as were asked for. -/
theorem takeBytes_length {cfg : Config} {n : Nat} {st st' : StreamState} {ks : List Byte}
    (h : takeBytes cfg n st = some (ks, st')) : ks.length = n := by
  induction n generalizing st ks with
  | zero => cases h; rfl
  | succ n ih =>
    obtain ⟨b, st1, bs, -, hr, rfl⟩ := takeBytes_succ_cases h
    simp [ih hr]

end Sys2Proof.Machine
end

