-- ==== Sys2Proof/Laws/Commands.lean ====
section
/-!
SUPPORT. Everything each command can do, said once per command: the cases of its meaning with the next state of each, to
be cited instead of unfolding the meaning.
-/

namespace Sys2Proof.Machine

section
variable (s : State)

/-- A slot operand that exists passes the check. -/
theorem needSlot_of_lt {k : BitVec 4} (h : s.hasSlot k) (body : Out) : needSlot s k body = body := if_neg (Nat.not_le.mpr h)

/-- The check of a slot operand sees the slots only. -/
theorem needSlot_latch_cases (i : Instr) (k : BitVec 4) (body : Out) :
    (s.hasSlot k ∧ needSlot (s.latch (encode i)) k body = body) ∨
    (¬ s.hasSlot k ∧ needSlot (s.latch (encode i)) k body = .next (s.refusedWith i .badIndex)) :=
  needSlot_cases (s.latch (encode i)) k body

/-- The engine's own part of INIT. -/
def setupOf (eng : Engine) (a : InitOperands) : State → CipherState :=
  match eng with
  | .lf128 => setupLf128 a
  | .lf256 => setupLf256 a
  | .ctr => setupCtr a
  | .srp => setupSrp a
  | .blk => setupBlk a

theorem exec_initOf (eng : Engine) (c : BitVec 4) (a : InitOperands) :
    exec (initOf eng c a) s = initCommand eng c a s (setupOf eng a) := by
  cases eng <;> rfl

/-- Latching `CMD` does not touch what INIT reads. -/
@[simp] theorem setupOf_latch (eng : Engine) (a : InitOperands) (cw : Word) :
    setupOf eng a (s.latch cw) = setupOf eng a s := by
  cases eng <;> simp [setupOf, setupLf128, setupLf256, setupCtr, setupSrp, setupBlk, State.keyBytes, State.ivBytes]

/-- A READY context lies within the list of contexts. -/
theorem lt_length_of_ready {c : BitVec 4} {cur rst : CipherState} (h : s.context c = .ready cur rst) :
    c.toNat < s.ctx.length := by
  by_contra hn
  rw [State.context, List.getD_eq_default _ _ (Nat.le_of_not_lt hn)] at h
  cases h

/-- INIT (40_contract.md R84). -/
theorem execInit_cases (eng : Engine) (c : BitVec 4) (a : InitOperands) :
    (¬ s.hasContext c ∧ exec (initOf eng c a) s = .next (s.refusedWith (initOf eng c a) .badIndex)) ∨
    (s.hasContext c ∧ (∃ e, s.context c = .dead e) ∧
      exec (initOf eng c a) s = .next (s.refusedWith (initOf eng c a) .deadCtx)) ∨
    (s.hasContext c ∧ (s.context c).Alive ∧ ∃ e, configCheck eng a = some e ∧
      exec (initOf eng c a) s = .next (s.killedWith (initOf eng c a) c (.config e))) ∨
    (s.hasContext c ∧ (s.context c).Alive ∧ configCheck eng a = none ∧
      exec (initOf eng c a) s =
        .next ((s.setContext c (.ready (setupOf eng a s) (setupOf eng a s))).done (initOf eng c a) 0)) := by
  simpa only [exec_initOf, setupOf_latch] using initCommand_cases s eng c a (setupOf eng a)

/-- The range check of PROCESS. -/
theorem rangesFit_iff : s.rangesFit = true ↔ s.inOff + s.len ≤ s.cfg.ibufSize ∧ s.outOff + s.len ≤ s.cfg.obufSize := by
  simp [State.rangesFit]

/-- PROCESS (40_contract.md R89). -/
theorem execProcess_cases (c : BitVec 4) :
    (¬ s.hasContext c ∧ execProcess c s = .next (s.refusedWith (.process c) .badIndex)) ∨
    (s.hasContext c ∧ (∃ e, s.context c = .dead e) ∧ execProcess c s = .next (s.refusedWith (.process c) .deadCtx)) ∨
    (s.hasContext c ∧ s.context c = .empty ∧ execProcess c s = .next (s.refusedWith (.process c) .notInit)) ∨
    (s.hasContext c ∧ (∃ cur rst, s.context c = .ready cur rst ∧
        (s.rangesFit = false ∨ (cur.engine = .blk ∧ s.len % 16 ≠ 0))) ∧
      execProcess c s = .next (s.refusedWith (.process c) .bufShort)) ∨
    (s.hasContext c ∧ s.rangesFit = true ∧ ∃ st rst, s.context c = .ready (.blk st) rst ∧ s.len % 16 = 0 ∧
      execProcess c s = .next ((s.writeBytes .obuf s.outOff (blkOutput s st)).done (.process c) s.arg1)) ∨
    (s.hasContext c ∧ s.rangesFit = true ∧ ∃ st rst, s.context c = .ready (.stream st) rst ∧
      takeBytes s.cfg s.len st = none ∧
      execProcess c s = .next (s.leaveResidue.killedWith (.process c) c (.exhausted .wordLimit))) ∨
    (s.hasContext c ∧ s.rangesFit = true ∧ ∃ st rst ks st', s.context c = .ready (.stream st) rst ∧
      takeBytes s.cfg s.len st = some (ks, st') ∧
      execProcess c s =
        .next (((s.writeBytes .obuf s.outOff (xorBytes s.inputBytes ks)).setContext c (.ready (.stream st') rst)).done
          (.process c) s.arg1)) := by
  by_cases hc : s.hasContext c
  · rw [execProcess, onContext_of_lt s _ _ hc]
    cases hx : s.context c with
    | empty => exact .inr (.inr (.inl ⟨hc, rfl, rfl⟩))
    | dead e => exact .inr (.inl ⟨hc, ⟨e, rfl⟩, rfl⟩)
    | ready cur rst =>
      simp only [needReady, show (s.latch (encode (.process c))).rangesFit = s.rangesFit from rfl]
      cases hr : s.rangesFit with
      | false => exact .inr (.inr (.inr (.inl ⟨hc, ⟨cur, rst, rfl, .inl rfl⟩, rfl⟩)))
      | true =>
        cases cur with
        | blk st =>
          by_cases hl : s.len % 16 = 0
          · refine .inr (.inr (.inr (.inr (.inl ⟨hc, rfl, st, rst, rfl, hl, ?_⟩))))
            have h1 : (s.latch (encode (.process c))).len % 16 = 0 := hl
            simp only [if_true, processBlk, h1]
            have h2 : blkOutput (s.latch (encode (.process c))) st = blkOutput s st := by
              simp only [blkOutput, latch_readBytes]; rfl
            rw [h2]; rfl
          · refine .inr (.inr (.inr (.inl ⟨hc, ⟨_, rst, rfl, .inr ⟨rfl, hl⟩⟩, ?_⟩)))
            have h1 : ¬ (s.latch (encode (.process c))).len % 16 = 0 := hl
            simp only [if_true, processBlk, h1, if_false]
            rfl
        | stream st =>
          cases ht : takeBytes s.cfg s.len st with
          | none =>
            refine .inr (.inr (.inr (.inr (.inr (.inl ⟨hc, rfl, st, rst, rfl, ht, ?_⟩)))))
            simp only [if_true, processStream_none (s.latch (encode (.process c))) c rst ht]
            rw [show (s.latch (encode (.process c))).leaveResidue = s.leaveResidue.latch (encode (.process c)) from rfl,
              raise_terminal_latch]
            rfl
          | some p =>
            obtain ⟨ks, st'⟩ := p
            refine .inr (.inr (.inr (.inr (.inr (.inr ⟨hc, rfl, st, rst, ks, st', rfl, ht, ?_⟩)))))
            simp only [if_true, processStream_some (s.latch (encode (.process c))) c rst ht]
            have h2 : (s.latch (encode (.process c))).inputBytes = s.inputBytes := by
              simp only [State.inputBytes, latch_readBytes]; rfl
            rw [h2]; rfl
  · exact .inl ⟨hc, onContext_of_ge s _ _ hc⟩

/-- RETBYTE (40_contract.md R93). -/
theorem execRetbyte_cases (c : BitVec 4) (b : Byte) :
    (¬ s.hasContext c ∧ execRetbyte c b s = .next (s.refusedWith (.retbyte c b) .badIndex)) ∨
    (s.hasContext c ∧ (∃ e, s.context c = .dead e) ∧ execRetbyte c b s = .next (s.refusedWith (.retbyte c b) .deadCtx)) ∨
    (s.hasContext c ∧ s.context c = .empty ∧ execRetbyte c b s = .next (s.refusedWith (.retbyte c b) .notInit)) ∨
    (s.hasContext c ∧ (∃ st rst, s.context c = .ready (.blk st) rst) ∧
      execRetbyte c b s = .next (s.refusedWith (.retbyte c b) .noRetbyte)) ∨
    (s.hasContext c ∧ ∃ st rst, s.context c = .ready (.stream st) rst ∧ nextByte s.cfg st = none ∧
      execRetbyte c b s = .next (s.killedWith (.retbyte c b) c (.exhausted .wordLimit))) ∨
    (s.hasContext c ∧ ∃ st rst kb st', s.context c = .ready (.stream st) rst ∧ nextByte s.cfg st = some (kb, st') ∧
      execRetbyte c b s =
        .next ((s.setContext c (.ready (.stream st') rst)).done (.retbyte c b) ((b ^^^ kb).setWidth 32))) := by
  by_cases hc : s.hasContext c
  · rw [execRetbyte, onContext_of_lt s _ _ hc]
    cases hx : s.context c with
    | empty => exact .inr (.inr (.inl ⟨hc, rfl, rfl⟩))
    | dead e => exact .inr (.inl ⟨hc, ⟨e, rfl⟩, rfl⟩)
    | ready cur rst =>
      cases cur with
      | blk st => exact .inr (.inr (.inr (.inl ⟨hc, ⟨st, rst, rfl⟩, rfl⟩)))
      | stream st =>
        cases hn : nextByte s.cfg st with
        | none =>
          refine .inr (.inr (.inr (.inr (.inl ⟨hc, st, rst, rfl, hn, ?_⟩))))
          simp only [needReady, latch_cfg, hn, raise_terminal_latch]
          rfl
        | some p =>
          obtain ⟨kb, st'⟩ := p
          refine .inr (.inr (.inr (.inr (.inr ⟨hc, st, rst, kb, st', rfl, hn, ?_⟩))))
          simp only [needReady, latch_cfg, hn]
          rfl
  · exact .inl ⟨hc, onContext_of_ge s _ _ hc⟩

/-- RESET (40_contract.md R94). -/
theorem execReset_cases (c : BitVec 4) :
    (¬ s.hasContext c ∧ execReset c s = .next (s.refusedWith (.reset c) .badIndex)) ∨
    (s.hasContext c ∧ (∃ e, s.context c = .dead e) ∧ execReset c s = .next (s.refusedWith (.reset c) .deadCtx)) ∨
    (s.hasContext c ∧ s.context c = .empty ∧ execReset c s = .next (s.refusedWith (.reset c) .notInit)) ∨
    (s.hasContext c ∧ ∃ cur rst, s.context c = .ready cur rst ∧
      execReset c s = .next ((s.setContext c (.ready rst rst)).done (.reset c) 0)) := by
  by_cases hc : s.hasContext c
  · rw [execReset, onContext_of_lt s _ _ hc]
    cases hx : s.context c with
    | empty => exact .inr (.inr (.inl ⟨hc, rfl, rfl⟩))
    | dead e => exact .inr (.inl ⟨hc, ⟨e, rfl⟩, rfl⟩)
    | ready cur rst => exact .inr (.inr (.inr ⟨hc, cur, rst, rfl, rfl⟩))
  · exact .inl ⟨hc, onContext_of_ge s _ _ hc⟩

/-- SNAPSHOT (40_contract.md R96). -/
theorem execSnapshot_cases (c k : BitVec 4) :
    ((¬ s.hasContext c ∨ ¬ s.hasSlot k) ∧ execSnapshot c k s = .next (s.refusedWith (.snapshot c k) .badIndex)) ∨
    (s.hasContext c ∧ s.hasSlot k ∧ (∃ e, s.context c = .dead e) ∧
      execSnapshot c k s = .next (s.refusedWith (.snapshot c k) .deadCtx)) ∨
    (s.hasContext c ∧ s.hasSlot k ∧ s.context c = .empty ∧
      execSnapshot c k s = .next (s.refusedWith (.snapshot c k) .notInit)) ∨
    (s.hasContext c ∧ s.hasSlot k ∧ ∃ cur rst, s.context c = .ready cur rst ∧
      execSnapshot c k s =
        .next ((s.setSnapshot k (some { cur := cur, rst := rst })).done (.snapshot c k) 0)) := by
  by_cases hc : s.hasContext c
  · rw [execSnapshot, onContext_of_lt s _ _ hc]
    rcases needSlot_latch_cases s (.snapshot c k) k (needReady (s.latch (encode (.snapshot c k))) (s.context c)
      fun cur rst => ((s.latch (encode (.snapshot c k))).setSnapshot k (some { cur := cur, rst := rst })).succeed 0) with
      ⟨hk, h⟩ | ⟨hk, h⟩
    · rw [h]
      cases hx : s.context c with
      | empty => exact .inr (.inr (.inl ⟨hc, hk, rfl, rfl⟩))
      | dead e => exact .inr (.inl ⟨hc, hk, ⟨e, rfl⟩, rfl⟩)
      | ready cur rst => exact .inr (.inr (.inr ⟨hc, hk, cur, rst, rfl, rfl⟩))
    · exact .inl ⟨.inr hk, h⟩
  · exact .inl ⟨.inl hc, onContext_of_ge s _ _ hc⟩

/-- RESTORE (40_contract.md R97). -/
theorem execRestore_cases (c k : BitVec 4) :
    ((¬ s.hasContext c ∨ ¬ s.hasSlot k) ∧ execRestore c k s = .next (s.refusedWith (.restore c k) .badIndex)) ∨
    (s.hasContext c ∧ s.hasSlot k ∧ (∃ e, s.context c = .dead e) ∧
      execRestore c k s = .next (s.refusedWith (.restore c k) .deadCtx)) ∨
    (s.hasContext c ∧ s.hasSlot k ∧ (s.context c).Alive ∧ s.snapshotAt k = none ∧
      execRestore c k s = .next (s.refusedWith (.restore c k) .snapEmpty)) ∨
    (s.hasContext c ∧ s.hasSlot k ∧ (∃ cur rst snap, s.context c = .ready cur rst ∧ s.snapshotAt k = some snap ∧
        cur.engine ≠ snap.cur.engine) ∧
      execRestore c k s = .next (s.refusedWith (.restore c k) .snapMismatch)) ∨
    (s.hasContext c ∧ s.hasSlot k ∧ (∃ snap, s.snapshotAt k = some snap ∧
      (s.context c = .empty ∨ ∃ cur rst, s.context c = .ready cur rst ∧ cur.engine = snap.cur.engine) ∧
      execRestore c k s = .next ((s.setContext c (.ready snap.cur snap.rst)).done (.restore c k) 0))) := by
  by_cases hc : s.hasContext c
  · by_cases hk : s.hasSlot k
    · rw [execRestore, onContext_of_lt s _ _ hc]
      have hk' : (s.latch (encode (.restore c k))).hasSlot k := hk
      rw [needSlot_of_lt _ hk', latch_snapshotAt]
      cases hx : s.context c with
      | dead e => exact .inr (.inl ⟨hc, hk, ⟨e, rfl⟩, rfl⟩)
      | empty =>
        cases hs : s.snapshotAt k with
        | none => exact .inr (.inr (.inl ⟨hc, hk, by simp [Context.Alive], rfl, rfl⟩))
        | some snap => exact .inr (.inr (.inr (.inr ⟨hc, hk, snap, rfl, .inl rfl, rfl⟩)))
      | ready cur rst =>
        cases hs : s.snapshotAt k with
        | none => exact .inr (.inr (.inl ⟨hc, hk, by simp [Context.Alive], rfl, rfl⟩))
        | some snap =>
          by_cases he : cur.engine = snap.cur.engine
          · refine .inr (.inr (.inr (.inr ⟨hc, hk, snap, rfl, .inr ⟨cur, rst, rfl, he⟩, ?_⟩)))
            simp only [engineDiffers, he, ne_eq, not_true, decide_false]
            rfl
          · refine .inr (.inr (.inr (.inl ⟨hc, hk, ⟨cur, rst, snap, rfl, rfl, he⟩, ?_⟩)))
            simp only [engineDiffers, ne_eq, he, not_false_eq_true, decide_true, if_true]
            rfl
    · refine .inl ⟨.inr hk, ?_⟩
      have h : (s.latch (encode (.restore c k))).cfg.nsnap ≤ k.toNat := Nat.not_lt.mp hk
      rw [execRestore, onContext_of_lt s _ _ hc, needSlot, if_pos h]
      rfl
  · exact .inl ⟨.inl hc, onContext_of_ge s _ _ hc⟩

/-- DROP (40_contract.md R98). -/
theorem execDrop_cases (c : BitVec 4) :
    (¬ s.hasContext c ∧ execDrop c s = .next (s.refusedWith (.drop c) .badIndex)) ∨
    (s.hasContext c ∧ execDrop c s = .next ((s.setContext c .empty).done (.drop c) 0)) := by
  by_cases hc : s.hasContext c
  · exact .inr ⟨hc, by rw [execDrop, onContext_of_lt s _ _ hc]; rfl⟩
  · exact .inl ⟨hc, onContext_of_ge s _ _ hc⟩

end

end Sys2Proof.Machine
end

