-- ==== Sys2Proof/Laws/PerInstr.lean ====
section
/-!
SUPPORT. The per-instruction family `EncodesToItsRow`: the command word of every command matches the command's own row of
the opcode table (30_encoding.md R78).
-/

namespace Sys2Proof.Laws

/-- The word of a command matches the mask and pattern of its row (30_encoding.md R78). -/
def EncodesToItsRow.Statement (i : Instr) : Prop := (opcodeRow i).matches (encode i) = true

/-- A word matches a row when it agrees with the pattern in every bit of the mask. -/
theorem matches_of_bits {r : OpcodeRow} {cw : Word} (h : ∀ j < 32, (cw.getLsbD j && r.mask.getLsbD j) = r.pattern.getLsbD j) :
    r.matches cw = true := by
  simp only [OpcodeRow.matches, beq_iff_eq]
  apply BitVec.eq_of_getLsbD_eq
  intro j hj
  rw [BitVec.getLsbD_and, h j hj]

theorem EncodesToItsRow.initLf128 (c : BitVec 4) (a : InitOperands) : EncodesToItsRow.Statement (.initLf128 c a) := by
  apply matches_of_bits
  intro j hj
  simp only [encode, opcodeRow, getLsbD_encodeInit]
  interval_cases j <;> simp [Engine.id]

theorem EncodesToItsRow.initLf256 (c : BitVec 4) (a : InitOperands) : EncodesToItsRow.Statement (.initLf256 c a) := by
  apply matches_of_bits
  intro j hj
  simp only [encode, opcodeRow, getLsbD_encodeInit]
  interval_cases j <;> simp [Engine.id]

theorem EncodesToItsRow.initCtr (c : BitVec 4) (a : InitOperands) : EncodesToItsRow.Statement (.initCtr c a) := by
  apply matches_of_bits
  intro j hj
  simp only [encode, opcodeRow, getLsbD_encodeInit]
  interval_cases j <;> simp [Engine.id]

theorem EncodesToItsRow.initSrp (c : BitVec 4) (a : InitOperands) : EncodesToItsRow.Statement (.initSrp c a) := by
  apply matches_of_bits
  intro j hj
  simp only [encode, opcodeRow, getLsbD_encodeInit]
  interval_cases j <;> simp [Engine.id]

theorem EncodesToItsRow.initBlk (c : BitVec 4) (a : InitOperands) : EncodesToItsRow.Statement (.initBlk c a) := by
  apply matches_of_bits
  intro j hj
  simp only [encode, opcodeRow, getLsbD_encodeInit]
  interval_cases j <;> simp [Engine.id]

theorem EncodesToItsRow.process (c : BitVec 4) : EncodesToItsRow.Statement (.process c) := by
  apply matches_of_bits
  intro j hj
  simp only [encode, opcodeRow, getLsbD_encodeZ]
  interval_cases j <;> simp

theorem EncodesToItsRow.reset (c : BitVec 4) : EncodesToItsRow.Statement (.reset c) := by
  apply matches_of_bits
  intro j hj
  simp only [encode, opcodeRow, getLsbD_encodeZ]
  interval_cases j <;> simp

theorem EncodesToItsRow.drop (c : BitVec 4) : EncodesToItsRow.Statement (.drop c) := by
  apply matches_of_bits
  intro j hj
  simp only [encode, opcodeRow, getLsbD_encodeZ]
  interval_cases j <;> simp

theorem EncodesToItsRow.retbyte (c : BitVec 4) (b : Byte) : EncodesToItsRow.Statement (.retbyte c b) := by
  apply matches_of_bits
  intro j hj
  simp only [encode, opcodeRow, getLsbD_encodeB]
  interval_cases j <;> simp

theorem EncodesToItsRow.snapshot (c k : BitVec 4) : EncodesToItsRow.Statement (.snapshot c k) := by
  apply matches_of_bits
  intro j hj
  simp only [encode, opcodeRow, getLsbD_encodeS]
  interval_cases j <;> simp

theorem EncodesToItsRow.restore (c k : BitVec 4) : EncodesToItsRow.Statement (.restore c k) := by
  apply matches_of_bits
  intro j hj
  simp only [encode, opcodeRow, getLsbD_encodeS]
  interval_cases j <;> simp

end Sys2Proof.Laws
end

