-- ==== Sys2Proof/Tests/Slice0.lean ====
section
/-!
SUPPORT. Tests: commands refused by the well-formedness check, words decoded by hand from 30_encoding.md, outcomes and
known answers of 95_test_vectors.md, the ROM tables against their formulas, and for every statement with hypotheses a
state and operands that meet them (`test_witness_…`).
-/

namespace Sys2Proof.Tests

-- One theorem at a time: theorems that wait for a long kernel evaluation would each hold a thread.
set_option Elab.async false

open Sys2Proof Sys2Proof.Machine

/-! ### Helpers -/

/-- The next state of an outcome, and the reset state where there is none. -/
def nextOf : Out → State
  | .next s => s
  | .fault _ => State.reset
  | .refused _ => State.reset

/-- An outcome is a next state. -/
def isNext : Out → Bool
  | .next _ => true
  | .fault _ => false
  | .refused _ => false

theorem eq_nextOf {o : Out} (h : isNext o = true) : o = .next (nextOf o) := by
  cases o <;> first | rfl | cases h

/-- STATUS after one step that runs the word `w`, with the context's view after it. -/
def outcomeOf (s : State) (c : Nat) (w : Nat) : Word × Word :=
  let t := nextOf (step (s.withFetchWord 32 w))
  (t.status, t.readReg (.ctxstat c))

/-- An LF CipherState with sixteen cells of 1, `iter` words counted and `idx` buffer bytes used. -/
def lfAt (iter idx : Nat) : LfState where
  s := Vector.replicate 16 1
  r1 := 2
  r2 := 3
  iter := iter
  buf := { ks := [0x10, 0x20, 0x30, 0x40], idx := idx }

/-- A CTR register set. -/
def ctrSet : CtrSet := { x := Vector.replicate 8 5, c := Vector.replicate 8 7, b := false }

/-- A CTR CipherState with `idx` buffer bytes used. -/
def ctrAt (idx : Nat) : CtrState :=
  { master := ctrSet, work := ctrSet, buf := { ks := List.replicate 16 0x55, idx := idx } }

/-- An SRP CipherState with `idx` buffer bytes used. -/
def srpAt (idx : Nat) : SrpState where
  sk := List.replicate 100 9
  lfsr := Vector.replicate 10 11
  r1 := 1
  r2 := 2
  buf := { ks := List.replicate 80 0x66, idx := idx }

/-- A BLK CipherState for a 16-byte key, its subkeys all equal. -/
def blkAt (dir : Bool) : BlkState where
  n := 4
  r := 12
  ke := List.replicate 13 #v[1, 2, 3, 4]
  kd := List.replicate 13 #v[4, 3, 2, 1]
  dir := dir

/-- The reset image of `lfAt`. -/
def lfFresh : LfState := { lfAt 0 4 with buf := emptyBuffer 4 }

/-- The LF128 context of the tests, in mid-buffer. -/
def lfMid : StreamState := .lf128 (lfAt 3 2)

/-- The reset image of `lfMid`. -/
def lfImage : CipherState := .stream (.lf128 lfFresh)

/-- The BLK context of the tests. -/
def blkCtx : CipherState := .blk (blkAt true)

/-- Context 0 READY/LF128 in mid-buffer, 1 READY/BLK, 2 DEAD, 3 EMPTY; slot 0 holds context 0's instance, slots 1 to 3
nothing; some bytes in the memories; PROCESS operands 0, 2, 8. -/
def live : State :=
  { State.reset with
    ctx := [.ready (.stream lfMid) lfImage, .ready blkCtx blkCtx, .dead (.config .ivLen), .empty]
    slot := [some { cur := .stream lfMid, rst := lfImage }, none, none, none]
    keybuf := [(0, 0xA7), (1, 0xC0), (31, 0x5B)]
    ivbuf := [(0, 0x84), (31, 0x11)]
    ibuf := [(0, 0x41), (1, 0x42), (2, 0x43), (3, 0x44), (4095, 0x7F)]
    obuf := [(8, 0xEE), (4095, 0x99)]
    arg0 := 0
    arg1 := 2
    arg2 := 8 }

/-- `live` with an LF128 context 0 that has used its last word and its buffer. -/
def spent : State := live.setContext 0 (.ready (.stream (.lf128 (lfAt 2047 4))) lfImage)

/-- `live` with a SNAPSHOT of context 0 in slot 2. -/
def shot : State := nextOf (exec (.snapshot 0 2) live)

/-- The class of STATUS after a command. -/
def classOf (i : Instr) (s : State) : BitVec 2 := statusClass (nextOf (exec i s)).status

/-! ### Well-formedness: one ill-formed term for each check (30_encoding.md R73) -/

theorem test_illFormed_klen_without_key : (Instr.initCtr 1 ⟨true, false, true, 16, 8⟩).wellFormed = false := by decide
theorem test_illFormed_ivlen_without_iv : (Instr.initBlk 0 ⟨true, true, false, 16, 16⟩).wellFormed = false := by decide
theorem test_illFormed_lf128 : (Instr.initLf128 0 ⟨true, false, true, 1, 16⟩).wellFormed = false := by decide
theorem test_illFormed_lf256 : (Instr.initLf256 0 ⟨true, true, false, 32, 25⟩).wellFormed = false := by decide
theorem test_illFormed_srp : (Instr.initSrp 15 ⟨false, true, false, 5, 255⟩).wellFormed = false := by decide
theorem test_wellFormed_without_key : (Instr.initCtr 1 ⟨true, false, true, 0, 8⟩).wellFormed = true := by decide

/-! ### Decoding: words written out from 30_encoding.md R71, R75, R76 (95_test_vectors.md 3.1)

OP 4, CTX 4, ENG 4, DIR 1, HASKEY 1, HASIV 1, MBZ 1, KLEN 8, IVLEN 8 bits for format I. -/

theorem test_decode_initLf128 :
    decode 0b0001_0000_0001_1_1_1_0_00010000_00010000 = .ok (.initLf128 0 ⟨true, true, true, 16, 16⟩) := by decide
theorem test_decode_initLf256 :
    decode 0b0001_0000_0010_1_1_1_0_00100000_00011001 = .ok (.initLf256 0 ⟨true, true, true, 32, 25⟩) := by decide
theorem test_decode_initCtr :
    decode 0b0001_0001_0011_1_1_1_0_00010000_00001000 = .ok (.initCtr 1 ⟨true, true, true, 16, 8⟩) := by decide
theorem test_decode_initSrp :
    decode 0b0001_0010_0100_0_1_1_0_00000101_00000000 = .ok (.initSrp 2 ⟨false, true, true, 5, 0⟩) := by decide
theorem test_decode_initBlk :
    decode 0b0001_0010_0111_0_1_0_0_00010000_00000000 = .ok (.initBlk 2 ⟨false, true, false, 16, 0⟩) := by decide
theorem test_decode_initCtr_nokey :
    decode 0b0001_0001_0011_1_0_1_0_00000000_00001000 = .ok (.initCtr 1 ⟨true, false, true, 0, 8⟩) := by decide
/-- Format Z: OP, CTX, 24 zero bits. -/
theorem test_decode_process : decode 0b0010_0001_000000000000000000000000 = .ok (.process 1) := by decide
theorem test_decode_reset : decode 0b0100_0011_000000000000000000000000 = .ok (.reset 3) := by decide
theorem test_decode_drop : decode 0b0111_1111_000000000000000000000000 = .ok (.drop 15) := by decide
/-- Format B: OP, CTX, 16 zero bits, BYTE. -/
theorem test_decode_retbyte : decode 0b0011_0001_0000000000000000_00110110 = .ok (.retbyte 1 0x36) := by decide
/-- Format S: OP, CTX, SLOT, 20 zero bits. -/
theorem test_decode_snapshot : decode 0b0101_0000_0001_00000000000000000000 = .ok (.snapshot 0 1) := by decide
theorem test_decode_restore : decode 0b0110_0011_0001_00000000000000000000 = .ok (.restore 3 1) := by decide
theorem test_encode_srp : encode (.initSrp 3 ⟨true, true, true, 5, 16⟩) = 0x134E0510 := by decide
theorem test_encode_blk : encode (.initBlk 0 ⟨true, true, false, 16, 0⟩) = 0x107C1000 := by decide
theorem test_decodeTableWord : decodeTableWord 32 0x50100000 = some (.snapshot 0 1) := by decide

/-- The illegal words of 95_test_vectors.md 3.1, each for its own reason (30_encoding.md R79). -/
theorem test_decode_illegal :
    decode 0x00000000 = .error .reservedOp ∧ decode 0x80000000 = .error .reservedOp ∧
    decode 0x21000001 = .error .mustBeZero ∧ decode 0x115E1010 = .error .reservedEngine ∧
    decode 0x113F1008 = .error .mustBeZero ∧ decode 0x113A1008 = .error .keyLengthWithoutKey ∧
    decode 0x113C1008 = .error .ivLengthWithoutIv := by decide

/-! ### Outcomes through one step (95_test_vectors.md 3.1, 3.2, P2, P3, P4) -/

theorem test_step_illegal : outcomeOf .reset 1 0x21000001 = (0x00002112, 0) := by decide +kernel
theorem test_step_badIndex :
    outcomeOf .reset 1 0x25000000 = (0x00002522, 0) ∧ outcomeOf .reset 1 0x50900000 = (0x00005022, 0) := by decide +kernel
theorem test_step_notInit :
    outcomeOf .reset 1 0x21000000 = (0x00002132, 0) ∧ outcomeOf .reset 1 0x31000055 = (0x00003132, 0) ∧
    outcomeOf .reset 1 0x41000000 = (0x00004132, 0) ∧ outcomeOf .reset 1 0x51000000 = (0x00005132, 0) := by decide +kernel
theorem test_step_snapEmpty : outcomeOf .reset 1 0x61000000 = (0x00006172, 0) := by decide +kernel
theorem test_step_drop_empty : outcomeOf .reset 1 0x71000000 = (0x00007100, 0) := by decide +kernel
theorem test_step_configErrors :
    outcomeOf .reset 1 0x113A0008 = (0x00001111, 0x00011002) ∧ outcomeOf .reset 1 0x113E1108 = (0x00001121, 0x00021002) ∧
    outcomeOf .reset 1 0x113C1000 = (0x00001131, 0x00031002) ∧ outcomeOf .reset 1 0x113E1007 = (0x00001141, 0x00041002) ∧
    outcomeOf .reset 1 0x117E1000 = (0x00001141, 0x00041002) ∧ outcomeOf .reset 1 0x114E0000 = (0x00001121, 0x00021002) ∧
    outcomeOf .reset 1 0x114E2100 = (0x00001121, 0x00021002) ∧ outcomeOf .reset 1 0x114E2011 = (0x00001141, 0x00041002) ∧
    outcomeOf .reset 1 0x112E2018 = (0x00001141, 0x00041002) := by decide +kernel
theorem test_step_init_ok :
    outcomeOf .reset 0 0x101E1010 = (0x00001000, 0x00000011) ∧ outcomeOf .reset 0 0x102E2019 = (0x00001000, 0x00000021) ∧
    outcomeOf .reset 1 0x113E1008 = (0x00001100, 0x00000031) ∧ outcomeOf .reset 2 0x12460500 = (0x00001200, 0x00000041) ∧
    outcomeOf .reset 0 0x107C1000 = (0x00001000, 0x00000171) ∧
    outcomeOf .reset 2 0x12741000 = (0x00001200, 0x00000071) := by decide +kernel
theorem test_step_dead :
    outcomeOf live 2 0x22000000 = (0x00002242, 0x00041002) ∧ outcomeOf live 2 0x123E1008 = (0x00001242, 0x00041002) ∧
    outcomeOf live 2 0x72000000 = (0x00007200, 0) := by decide +kernel
theorem test_step_noRetbyte : outcomeOf live 1 0x31000000 = (0x00003162, 0x00000171) := by decide +kernel
theorem test_step_snapMismatch : outcomeOf live 1 0x61000000 = (0x00006182, 0x00000171) := by decide +kernel
theorem test_step_restore : outcomeOf live 3 0x63000000 = (0x00006300, 0x00000011) := by decide +kernel
theorem test_step_reset : outcomeOf live 0 0x40000000 = (0x00004000, 0x00000011) := by decide +kernel
theorem test_step_wordLimit : outcomeOf spent 0 0x30000000 = (0x00003013, 0x00013002) := by decide +kernel

/-- The range checks of P4, steps 36 to 40 (20_memory.md R54). -/
theorem test_step_ranges :
    outcomeOf (live.withArgs 4090 7 0) 0 0x20000000 = (0x00002052, 0x00000011) ∧
    outcomeOf (live.withArgs 0 7 4090) 0 0x20000000 = (0x00002052, 0x00000011) ∧
    outcomeOf (live.withArgs 0xFFFFFFFF 2 0) 0 0x20000000 = (0x00002052, 0x00000011) ∧
    outcomeOf (live.withArgs 4096 0 4096) 0 0x20000000 = (0x00002000, 0x00000011) ∧
    outcomeOf (live.withArgs 4097 0 0) 0 0x20000000 = (0x00002052, 0x00000011) := by decide +kernel

/-- A BLK length that is no multiple of 16 (P2 step 5). -/
theorem test_step_blk_length : outcomeOf (live.withArgs 64 20 64) 1 0x21000000 = (0x00002152, 0x00000171) := by
  decide +kernel

/-- PROCESS XORs (40_contract.md R89): 41 xor 30, 42 xor 40, at OBUF[8], OBUF[9]; OBUF[4095] stays. -/
theorem test_process_bytes :
    let t := nextOf (exec (.process 0) live)
    t.obuf = [(8, 0x71), (9, 0x02), (4095, 0x99)] ∧ t.result = 2 := by decide +kernel

/-- RETBYTE XORs and zero-extends (40_contract.md R93): FF xor 30. -/
theorem test_retbyte_result : (nextOf (exec (.retbyte 0 0xFF) live)).result = 0xCF := by decide +kernel

/-! ### Host accesses (20_memory.md R55, R57) -/

theorem test_read_keybuf_word : (nextOf (serve (.read 0x9C 4) { live with keybuf := [(28, 1), (29, 2), (30, 3), (31, 4)] })).busData
    = 0x04030201 := by decide +kernel
theorem test_write_ibuf_half : (nextOf (serve (.write 0x10002 2 0x12345678) live)).ibuf
    = [(0, 0x41), (1, 0x42), (2, 0x78), (3, 0x56), (4095, 0x7F)] := by decide +kernel
theorem test_write_arg1 : (nextOf (serve (.write 0x010 4 0x40) live)).arg1 = 0x40 := by decide +kernel

/-! ### Known answers (95_test_vectors.md part 2) -/

theorem test_lf128_loading : (lfLoad128 refRom (List.replicate 16 0) (List.replicate 16 0))[0] = 0x0044D700 ∧
    (lfLoad128 refRom (List.replicate 16 0) (List.replicate 16 0))[15] = 0x0047AC00 := by decide +kernel
/-- 2.1, third row: the first keystream word. -/
theorem test_lf128_known_answer :
    (lfWord refRom (lfInit128 refRom
      [0x3D, 0x4C, 0x4B, 0xE9, 0x6A, 0x82, 0xFD, 0xAE, 0xB5, 0x8F, 0x64, 0x1D, 0xB1, 0x7B, 0x45, 0x5B]
      [0x84, 0x31, 0x9A, 0xA8, 0xDE, 0x69, 0x15, 0xCA, 0x1F, 0x6B, 0xDA, 0x6B, 0xFB, 0xD8, 0xC7, 0x66])).buf.ks
    = [0x14, 0xF1, 0xC2, 0x72] := by decide +kernel
/-- 2.2, second row: the first keystream word. -/
theorem test_lf256_known_answer :
    (lfWord refRom (lfInit256 refRom (List.replicate 32 0xFF) (List.replicate 17 0xFF ++ List.replicate 8 0x3F))).buf.ks
    = [0x33, 0x56, 0xCB, 0xAE] := by decide +kernel
/-- 2.3, second row: the first block. -/
theorem test_ctr_known_answer :
    (ctrGenerate refRom (ctrInit refRom (List.replicate 16 0) [0x59, 0x7E, 0x26, 0xC1, 0x75, 0xF5, 0x73, 0xC3])).buf.ks
    = [0x6D, 0x7D, 0x01, 0x22, 0x92, 0xCC, 0xDC, 0xE0, 0xE2, 0x12, 0x00, 0x58, 0xB9, 0x4E, 0xCD, 0x1F] := by
  decide +kernel
/-- 2.3, last row: the key packing. -/
theorem test_ctr_master_known_answer :
    ctrOutput (ctrNextState refRom (ctrKeySetup refRom
      [0xAC, 0xC3, 0x51, 0xDC, 0xF1, 0x62, 0xFC, 0x3B, 0xFE, 0x36, 0x3D, 0x2E, 0x29, 0x13, 0x28, 0x91])).x
    = [0x9C, 0x51, 0xE2, 0x87, 0x84, 0xC3, 0x7F, 0xE9, 0xA1, 0x27, 0xF6, 0x3E, 0xC8, 0xF3, 0x2D, 0x3D] := by
  decide +kernel
/-- 2.4, first row: the first eight bytes. -/
theorem test_srp_known_answer :
    (srpGenerate refRom (srpInit refRom [0xA7, 0xC0, 0x83, 0xFE, 0xB7]
      [0x00, 0x11, 0x22, 0x33, 0x44, 0x55, 0x66, 0x77, 0x88, 0x99, 0xAA, 0xBB, 0xCC, 0xDD, 0xEE, 0xFF])).buf.ks.take 8
    = [0xFE, 0x81, 0xD2, 0x16, 0x2C, 0x9A, 0x10, 0x0D] := by decide +kernel
/-- 2.5, first row. -/
theorem test_blk_known_answer :
    blkCrypt refRom (blkInit refRom (List.replicate 16 0xFE) true) (List.replicate 16 0xFE)
    = [0x6D, 0xC5, 0xDA, 0xA2, 0x26, 0x7D, 0x62, 0x6F, 0x08, 0xB7, 0x52, 0x8E, 0x6E, 0x6E, 0x86, 0x90] := by
  decide +kernel

/-! ### The ROM tables against the formulas the spec gives -/

theorem test_rom_lf_constants : LfConstantsNonzero refRom := by unfold LfConstantsNonzero; decide +kernel
theorem test_rom_alpha : AlphaTablesFromField refRom := by unfold AlphaTablesFromField; decide +kernel
theorem test_rom_block : BlockTablesFromSbox refRom := by unfold BlockTablesFromSbox; decide +kernel
theorem test_rom_block_involution : BlockSboxInvolutive refRom := by unfold BlockSboxInvolutive; decide +kernel

/-! ### Witnesses: states and operands that meet the hypotheses of the statements

A meaning that answers a next state is shown by `answers`; what the next state holds by evaluation. -/

/-- Every command answers a next state on the states of these tests; the class of its STATUS. -/
theorem answers {i : Instr} {s : State} {k : BitVec 2} (h : isNext (exec i s) = true ∧ classOf i s = k) :
    ∃ t, exec i s = .next t ∧ statusClass t.status = k := ⟨_, eq_nextOf h.1, h.2⟩

theorem alive_empty : Context.empty.Alive := by intro e h; cases h

theorem alive_ready (cur rst : CipherState) : (Context.ready cur rst).Alive := by intro e h; cases h

theorem live_lf_wf : InstanceWf refConfig (.stream lfMid) lfImage where
  cur_wf := ⟨by decide, ⟨rfl, by decide⟩, by decide⟩
  rst_wf := ⟨by decide, ⟨rfl, by decide⟩, by decide⟩
  rst_fresh := ⟨rfl, rfl⟩
  same_engine := rfl
  same_keys := rfl
  blk_at_image := fun h => by cases h

theorem live_blk_wf : InstanceWf refConfig blkCtx blkCtx where
  cur_wf := ⟨.inl rfl, rfl, rfl, rfl⟩
  rst_wf := ⟨.inl rfl, rfl, rfl, rfl⟩
  rst_fresh := trivial
  same_engine := rfl
  same_keys := rfl
  blk_at_image := fun _ => rfl

/-- A state with READY, DEAD and EMPTY contexts and a used slot satisfies the invariant. -/
theorem test_witness_inv : live.Inv where
  cfg_inRange := by constructor <;> decide
  loading_nonzero := test_rom_lf_constants
  ctx_length := rfl
  slot_length := rfl
  ctx_wf := by
    intro x hx
    simp only [live, List.mem_cons, List.not_mem_nil, or_false] at hx
    rcases hx with rfl | rfl | rfl | rfl
    · exact live_lf_wf
    · exact live_blk_wf
    · trivial
    · trivial
  slot_wf := by
    intro snap hx
    simp only [live, List.mem_cons, List.not_mem_nil, or_false, Option.some.injEq, reduceCtorEq] at hx
    subst hx
    exact live_lf_wf
  mem_wf := by intro buf; cases buf <;> decide
  mem_bound := by intro buf; cases buf <;> decide
  status_reserved := ⟨rfl, rfl⟩
  status_legal := .inl ⟨rfl, rfl⟩

theorem test_witness_DecodeOfEncode : (Instr.initSrp 15 ⟨true, true, true, 255, 255⟩).wellFormed = true ∧
    (Instr.initBlk 0 ⟨false, false, false, 0, 0⟩).wellFormed = true := by decide

theorem test_witness_EncodeOfDecode : decode 0x5FF00000 = .ok (.snapshot 15 15) ∧
    decode 0x1F4EFFFF = .ok (.initSrp 15 ⟨true, true, true, 255, 255⟩) := by decide

theorem test_witness_LegalWordsMatchOneRow : decode 0x3F0000FF = .ok (.retbyte 15 0xFF) ∧
    (⟨0xF0FFFF00, 0x30000000⟩ : OpcodeRow).matches 0x3F0000FF = true ∧
    decode 0x10700000 = .ok (.initBlk 0 ⟨false, false, false, 0, 0⟩) ∧
    (⟨0xF0F10000, 0x10700000⟩ : OpcodeRow).matches 0x10700000 = true ∧ initLengthsConsistent 0x10700000 = true := by decide

theorem test_witness_IllegalWordsRaiseIllegalCmd :
    decode 0x0FFFFFFF = .error .reservedOp ∧ decode 0xF0000000 = .error .reservedOp ∧
    decode 0x10110000 = .error .mustBeZero ∧ decode 0x70800000 = .error .mustBeZero ∧
    decode 0x30000100 = .error .mustBeZero ∧ decode 0x60080000 = .error .mustBeZero ∧
    decode 0x10800000 = .error .reservedEngine ∧ decode 0x10900000 = .error .reservedEngine ∧
    decode 0x10100100 = .error .keyLengthWithoutKey ∧ decode 0x10100001 = .error .ivLengthWithoutIv := by decide

theorem test_witness_StepServesOldestAccess :
    ({ live with pending := [.read 4 4, .read 0 4] }).pending = .read 4 4 :: [.read 0 4] ∧ live.pending = [] := ⟨rfl, rfl⟩

theorem test_witness_StepRunsDecodedCommand :
    (live.withFetchWord 32 0x20000000).pending = .write live.cfg.coreBase 4 0x20000000 :: [] ∧
    decode 0x20000000 = .ok (.process 0) := ⟨rfl, by decide⟩

/-- An EMPTY, two READY and a DEAD context, the last existing index and the first that does not exist. -/
theorem test_witness_HostReadsRegisters :
    live.hasContext 3 ∧ live.context 3 = .empty ∧ live.hasContext 0 ∧ live.context 0 = .ready (.stream lfMid) lfImage ∧
    live.hasContext 1 ∧ live.context 1 = .ready (.blk (blkAt true)) blkCtx ∧
    live.hasContext 2 ∧ live.context 2 = .dead (.config .ivLen) ∧ ¬ live.hasContext 4 ∧ ¬ live.hasContext 15 := by
  refine ⟨?_, rfl, ?_, rfl, ?_, rfl, ?_, rfl, ?_, ?_⟩ <;> unfold State.hasContext <;> decide

theorem test_witness_HostAccessEffects :
    isNext (serve (.read 0x05C 4) live) = true ∧ isNext (serve (.read 0x2FFFF 1) live) = true ∧
    isNext (serve (.read 0x80 2) live) = true := by decide +kernel

/-- The reserved offsets next to each window and register. -/
theorem test_witness_ReservedOffsetsReadZero :
    live.cfg.InRange ∧ ∀ off ∈ [0x18, 0x1C, 0x60, 0x7C, 0xC0, 0xFFFC, 0x11000, 0x1FFFC, 0x21000, 0x2FFFC],
      off < 0x30000 ∧ off % 4 = 0 ∧ ¬ off < 0x18 ∧ ¬ (0x20 ≤ off ∧ off < 0x60) ∧ ¬ (0x80 ≤ off ∧ off < 0xC0) ∧
      ¬ (0x10000 ≤ off ∧ off < 0x10000 + 4096) ∧ ¬ (0x20000 ≤ off ∧ off < 0x20000 + 4096) :=
  ⟨test_witness_inv.cfg_inRange, by decide⟩

/-- The first and the last access of each window. -/
theorem test_witness_WindowAccessesAreLittleEndian :
    live.cfg.InRange ∧
    (∀ p ∈ [(0, 4), (31, 1), (30, 2), (28, 4)], (p.2 = 1 ∨ p.2 = 2 ∨ p.2 = 4) ∧ p.1 % p.2 = 0 ∧
      p.1 + p.2 ≤ live.cfg.size .keybuf ∧ p.1 + p.2 ≤ live.cfg.size .ivbuf) ∧
    (∀ p ∈ [(0, 4), (4095, 1), (4094, 2), (4092, 4)], (p.2 = 1 ∨ p.2 = 2 ∨ p.2 = 4) ∧ p.1 % p.2 = 0 ∧
      p.1 + p.2 ≤ live.cfg.size .ibuf ∧ p.1 + p.2 ≤ live.cfg.size .obuf) :=
  ⟨test_witness_inv.cfg_inRange, by decide, by decide⟩

/-- A configuration whose IBUF window ends inside a word. -/
def oddConfig : Config := { refConfig with ibufSize := 17 }

/-- A configuration whose region does not begin at 0. -/
def highConfig : Config := { refConfig with coreBase := 0x1000 }

theorem test_witness_UnspecifiedAccessesStop :
    (0xFFF < (State.hreset highConfig).cfg.coreBase ∧
      serve (.read 0xFFF 1) (State.hreset highConfig) = .fault .outsideRegion) ∧
    serve (.read 0x30000 4) live = .fault .outsideRegion ∧
    serve (.read 0x2FFFF 3) live = .refused .unsupportedWidth ∧
    serve (.read 0x2FFFE 4) live = .refused .misalignedAccess ∧
    serve (.read 0x17 1) live = .refused .narrowRegisterAccess ∧ serve (.read 0x5E 2) live = .refused .narrowRegisterAccess ∧
    (State.hreset oddConfig).cfg.InRange ∧
    serve (.read 0x10010 4) (State.hreset oddConfig) = .refused .straddlesWindow :=
  ⟨⟨by decide, rfl⟩, rfl, rfl, rfl, rfl, rfl, by constructor <;> decide, rfl⟩

/-- An error, PROCESS and RETBYTE that succeed, another command that succeeds. -/
theorem test_witness_ResultRegister :
    (∃ t, exec (.process 3) live = .next t ∧ statusClass t.status = 2) ∧
    (∃ t, exec (.process 0) live = .next t ∧ statusClass t.status = 0) ∧
    (∃ t, exec (.retbyte 0 0x80) live = .next t ∧ statusClass t.status = 0) ∧
    (∃ t, exec (.drop 0) live = .next t ∧ statusClass t.status = 0) :=
  ⟨answers (by decide +kernel), answers (by decide +kernel), answers (by decide +kernel), answers (by decide +kernel)⟩

theorem test_witness_UsageErrorsHaveNoEffect :
    ∃ t, runCommand 0x22000000 live = .next t ∧ statusClass t.status = 2 :=
  ⟨nextOf (runCommand 0x22000000 live), eq_nextOf (by decide +kernel), by decide +kernel⟩

theorem test_witness_CommandFrame :
    (∃ t, exec (.process 0) live = .next t ∧ statusClass t.status = 0) ∧
    (∃ t, exec (.snapshot 1 3) live = .next t ∧ statusClass t.status = 0) ∧
    (∃ t, exec (.initBlk 3 ⟨true, true, false, 32, 0⟩) live = .next t ∧ statusClass t.status = 0) :=
  ⟨answers (by decide +kernel), answers (by decide +kernel), answers (by decide +kernel)⟩

/-- The first context and the first slot that do not exist. -/
theorem test_witness_IndexErrors :
    ¬ live.hasContext (Instr.process 4).ctxOf ∧ (Instr.restore 0 4).slotOf = some 4 ∧ ¬ live.hasSlot 4 ∧ live.hasSlot 3 := by
  refine ⟨?_, rfl, ?_, ?_⟩ <;> simp only [State.hasContext, State.hasSlot] <;> decide

theorem test_witness_LifecycleErrors :
    live.hasContext 2 ∧ live.context 2 = .dead (.config .ivLen) ∧ live.hasContext 3 ∧ live.context 3 = .empty ∧
    (Instr.snapshot 3 3).slotOf = some 3 ∧ live.hasSlot 3 := by
  refine ⟨?_, rfl, ?_, rfl, rfl, ?_⟩ <;> simp only [State.hasContext, State.hasSlot] <;> decide

theorem test_witness_EngineAndSlotErrors :
    live.hasContext 1 ∧ live.context 1 = .ready (.blk (blkAt true)) blkCtx ∧ live.hasSlot 3 ∧ (live.context 1).Alive ∧
    live.snapshotAt 3 = none ∧ live.hasSlot 0 ∧ live.snapshotAt 0 = some { cur := .stream lfMid, rst := lfImage } ∧
    blkCtx.engine ≠ (CipherState.stream lfMid).engine := by
  refine ⟨?_, rfl, ?_, alive_ready _ _, rfl, ?_, rfl, by decide⟩ <;>
    simp only [State.hasContext, State.hasSlot] <;> decide

/-- Every outcome of the configuration check, at the edges of the lengths (40_contract.md R85). -/
theorem test_witness_ConfigCheckOrder :
    configCheck .ctr ⟨true, false, true, 0, 8⟩ = some .noKey ∧ configCheck .lf128 ⟨true, true, true, 15, 16⟩ = some .keyLen ∧
    configCheck .lf128 ⟨true, true, true, 17, 16⟩ = some .keyLen ∧ configCheck .srp ⟨true, true, true, 0, 0⟩ = some .keyLen ∧
    configCheck .srp ⟨true, true, true, 33, 0⟩ = some .keyLen ∧ configCheck .srp ⟨true, true, true, 32, 16⟩ = none ∧
    configCheck .srp ⟨true, true, true, 1, 0⟩ = none ∧ configCheck .srp ⟨true, true, true, 1, 17⟩ = some .ivLen ∧
    configCheck .srp ⟨true, true, false, 1, 0⟩ = some .noIv ∧ configCheck .blk ⟨true, true, true, 16, 0⟩ = some .ivLen ∧
    configCheck .blk ⟨true, true, false, 24, 0⟩ = none ∧ configCheck .blk ⟨true, true, false, 20, 0⟩ = some .keyLen ∧
    configCheck .lf256 ⟨true, true, true, 32, 24⟩ = some .ivLen ∧ configCheck .lf256 ⟨true, true, true, 32, 25⟩ = none := by
  decide

theorem test_witness_InitConfigErrorKills :
    live.hasContext 1 ∧ (live.context 1).Alive ∧ configCheck .lf128 ⟨true, true, true, 17, 16⟩ = some .keyLen ∧
    ∃ t, exec (.initLf128 1 ⟨true, true, true, 17, 16⟩) live = .next t ∧ statusClass t.status = 1 :=
  ⟨by unfold State.hasContext; decide, alive_ready _ _, by decide, answers (by decide +kernel)⟩

/-- Contexts on which INIT may run: an EMPTY and a READY one. -/
theorem test_witness_InitCompletes :
    live.hasContext 3 ∧ (live.context 3).Alive ∧ live.hasContext 0 ∧ (live.context 0).Alive := by
  refine ⟨?_, ?_, ?_, ?_⟩
  · unfold State.hasContext; decide
  · exact alive_empty
  · unfold State.hasContext; decide
  · exact alive_ready _ _

theorem test_witness_InitLf128Completes : live.hasContext 3 ∧ (live.context 3).Alive ∧
    (⟨true, true, true, 16, 16⟩ : InitOperands).hasKey = true ∧ (⟨true, true, true, 16, 16⟩ : InitOperands).klen = 16 ∧
    (⟨true, true, true, 16, 16⟩ : InitOperands).hasIv = true ∧ (⟨true, true, true, 16, 16⟩ : InitOperands).ivlen = 16 :=
  ⟨test_witness_InitCompletes.1, test_witness_InitCompletes.2.1, rfl, rfl, rfl, rfl⟩

theorem test_witness_InitLf256Completes : live.hasContext 3 ∧ (live.context 3).Alive ∧
    (⟨true, true, true, 32, 25⟩ : InitOperands).hasKey = true ∧ (⟨true, true, true, 32, 25⟩ : InitOperands).klen = 32 ∧
    (⟨true, true, true, 32, 25⟩ : InitOperands).hasIv = true ∧ (⟨true, true, true, 32, 25⟩ : InitOperands).ivlen = 25 :=
  ⟨test_witness_InitCompletes.1, test_witness_InitCompletes.2.1, rfl, rfl, rfl, rfl⟩

theorem test_witness_InitCtrCompletes : live.hasContext 0 ∧ (live.context 0).Alive ∧
    (⟨false, true, true, 16, 8⟩ : InitOperands).hasKey = true ∧ (⟨false, true, true, 16, 8⟩ : InitOperands).klen = 16 ∧
    (⟨false, true, true, 16, 8⟩ : InitOperands).hasIv = true ∧ (⟨false, true, true, 16, 8⟩ : InitOperands).ivlen = 8 :=
  ⟨test_witness_InitCompletes.2.2.1, test_witness_InitCompletes.2.2.2, rfl, rfl, rfl, rfl⟩

theorem test_witness_InitSrpCompletes : live.hasContext 0 ∧ (live.context 0).Alive ∧
    1 ≤ (1 : BitVec 8).toNat ∧ (32 : BitVec 8).toNat ≤ 32 ∧ (16 : BitVec 8).toNat ≤ 16 :=
  ⟨test_witness_InitCompletes.2.2.1, test_witness_InitCompletes.2.2.2, by simp, by simp, by simp⟩

theorem test_witness_InitBlkCompletes : live.hasContext 3 ∧ (live.context 3).Alive ∧
    ∀ n ∈ [(16 : BitVec 8), 24, 32], (n = 16 ∨ n = 24 ∨ n = 32) ∧ configCheck .blk ⟨true, true, false, n, 0⟩ = none :=
  ⟨test_witness_InitCompletes.1, test_witness_InitCompletes.2.1, by decide +kernel⟩

theorem test_witness_InitLeavesFreshInstance :
    live.Inv ∧ ∃ t, exec (initOf .srp 1 ⟨true, true, true, 5, 16⟩) live = .next t ∧ statusClass t.status = 0 :=
  ⟨test_witness_inv, answers (by decide +kernel)⟩

theorem test_witness_DirIgnoredByStreamEngines :
    Engine.srp ≠ .blk ∧
    (∃ t, exec (initOf .srp 0 ⟨true, true, true, 5, 16⟩) live = .next t ∧ statusClass t.status = 0) ∧
    (∃ t, exec (initOf .srp 0 ⟨false, true, true, 5, 16⟩) live = .next t ∧ statusClass t.status = 0) ∧
    live.Inv ∧ (∃ t, exec (.initBlk 0 ⟨true, true, false, 24, 0⟩) live = .next t ∧ statusClass t.status = 0) ∧
    live.context 1 = .ready (.blk (blkAt true)) blkCtx ∧
    (∃ t, exec (.reset 1) live = .next t ∧ statusClass t.status = 0) :=
  ⟨by decide, answers (by decide +kernel), answers (by decide +kernel), test_witness_inv, answers (by decide +kernel), rfl,
    answers (by decide +kernel)⟩

theorem test_witness_InitForgetsTheOldInstance :
    live.hasContext 0 ∧ (Context.ready blkCtx blkCtx).Alive ∧ Context.empty.Alive :=
  ⟨test_witness_InitCompletes.2.2.1, alive_ready _ _, alive_empty⟩

/-- Two states that differ in KEYBUF and IVBUF from the lengths of the INIT on. -/
theorem test_witness_InitReadsOnlyTheGivenLengths :
    let other : State := { live with keybuf := [(0, 0xA7), (1, 0xC0)], ivbuf := [(0, 0x84), (25, 1)] }
    live.cfg = other.cfg ∧ live.ctx = other.ctx ∧
    (∀ k < 16, live.readByte .keybuf k = other.readByte .keybuf k) ∧
    (∀ k < 16, live.readByte .ivbuf k = other.readByte .ivbuf k) ∧
    (∃ t, exec (initOf .lf128 3 ⟨true, true, true, 16, 16⟩) live = .next t ∧ statusClass t.status = 0) ∧
    (∃ t, exec (initOf .lf128 3 ⟨true, true, true, 16, 16⟩) other = .next t ∧ statusClass t.status = 0) := by
  refine ⟨rfl, rfl, ?_, ?_, answers (by decide +kernel), answers (by decide +kernel)⟩
  · intro k hk; interval_cases k <;> rfl
  · intro k hk; interval_cases k <;> rfl

/-- Two bytes of the buffer; the ranges end at the ends of the buffers. -/
theorem test_witness_ProcessStreamCompletes :
    let s := live.withArgs 4094 2 4094
    s.hasContext 0 ∧ s.context 0 = .ready (.stream lfMid) lfImage ∧
    s.arg0.toNat + s.arg1.toNat ≤ s.cfg.ibufSize ∧ s.arg2.toNat + s.arg1.toNat ≤ s.cfg.obufSize ∧
    takeBytes s.cfg s.arg1.toNat lfMid = some ([0x30, 0x40], .lf128 (lfAt 3 4)) :=
  ⟨by unfold State.hasContext; decide, rfl, by decide, by decide, rfl⟩

theorem test_witness_ProcessBlkCompletes :
    let s := live.withArgs 4064 32 0
    s.hasContext 1 ∧ s.context 1 = .ready (.blk (blkAt true)) blkCtx ∧
    s.arg0.toNat + s.arg1.toNat ≤ s.cfg.ibufSize ∧ s.arg2.toNat + s.arg1.toNat ≤ s.cfg.obufSize ∧ s.arg1.toNat % 16 = 0 :=
  ⟨by unfold State.hasContext; decide, rfl, by decide, by decide, by decide⟩

/-- A range whose end would wrap, an output range too long, a length of 15 on BLK, and ranges that fit. -/
theorem test_witness_ProcessBufShort :
    live.hasContext 1 ∧ live.context 1 = .ready blkCtx blkCtx ∧
    (∃ t, exec (.process 1) (live.withArgs 0xFFFFFFFF 1 0) = .next t ∧ statusClass t.status = 2) ∧
    (∃ t, exec (.process 1) (live.withArgs 0 16 4081) = .next t ∧ statusClass t.status = 2) ∧
    (∃ t, exec (.process 1) (live.withArgs 0 15 0) = .next t ∧ statusClass t.status = 2) ∧
    (∃ t, exec (.process 1) (live.withArgs 0 16 4080) = .next t ∧ statusClass t.status = 0) :=
  ⟨by unfold State.hasContext; decide, rfl, answers (by decide +kernel), answers (by decide +kernel),
    answers (by decide +kernel), answers (by decide +kernel)⟩

theorem test_witness_NearestThingsToNop :
    let s := live.withArgs 4096 0 4096
    s.hasContext 0 ∧ s.context 0 = .ready (.stream lfMid) lfImage ∧ s.arg1 = 0 ∧ s.arg0.toNat ≤ s.cfg.ibufSize ∧
    s.arg2.toNat ≤ s.cfg.obufSize ∧ s.hasContext 3 ∧ s.context 3 = .empty :=
  ⟨by unfold State.hasContext; decide, rfl, rfl, by decide, by decide, by unfold State.hasContext; decide, rfl⟩

theorem test_witness_WordLimitKillsTheContext :
    spent.hasContext 0 ∧ (0 : BitVec 4).toNat < spent.ctx.length ∧
    spent.context 0 = .ready (.stream (.lf128 (lfAt 2047 4))) lfImage ∧
    spent.arg0.toNat + spent.arg1.toNat ≤ spent.cfg.ibufSize ∧ spent.arg2.toNat + spent.arg1.toNat ≤ spent.cfg.obufSize ∧
    takeBytes spent.cfg spent.arg1.toNat (.lf128 (lfAt 2047 4)) = none ∧ nextByte spent.cfg (.lf128 (lfAt 2047 4)) = none :=
  ⟨by unfold State.hasContext; decide, by decide, rfl, by decide, by decide, rfl, rfl⟩

/-- A fresh instance, one in mid-buffer, and one that has used everything. -/
theorem test_witness_ExhaustionBound :
    (lfAt 0 4).buf.idx ≤ 4 ∧ (lfAt 0 4).iter ≤ refConfig.lfMax128 ∧ (lfAt 624 2).iter ≤ refConfig.lfMax256 ∧
    (takeBytes refConfig 0 (.lf128 (lfAt 2047 4))).isSome = true ∧ (takeBytes refConfig 1 (.lf128 (lfAt 2047 4))).isSome = false ∧
    (takeBytes refConfig 1 (.lf256 (lfAt 625 3))).isSome = true ∧ (takeBytes refConfig 2 (.lf256 (lfAt 625 3))).isSome = false := by
  decide

theorem test_witness_IterationCounterCountsWords :
    takeBytes refConfig 2 (.lf128 (lfAt 3 2)) = some ([0x30, 0x40], .lf128 (lfAt 3 4)) ∧
    takeBytes refConfig 0 (.lf256 (lfAt 624 4)) = some ([], .lf256 (lfAt 624 4)) ∧
    (lfAt 3 2).iter ≤ refConfig.lfMax128 ∧ (lfAt 625 4).iter ≤ refConfig.lfMax256 := ⟨rfl, rfl, by decide, by decide⟩

theorem test_witness_LogicalKeystream :
    (lfAt 0 4).buf.idx = 4 ∧ (takeBytes refConfig 5 (.lf128 (lfAt 0 4))).isSome = true ∧
    (takeBytes refConfig 5 (.lf256 (lfAt 0 4))).isSome = true ∧
    (ctrAt 16).buf.idx = 16 ∧ (takeBytes refConfig 17 (.ctr (ctrAt 16))).isSome = true ∧
    (srpAt 80).buf.idx = 80 ∧ (takeBytes refConfig 81 (.srp (srpAt 80))).isSome = true :=
  ⟨rfl, by decide +kernel, by decide +kernel, rfl, by decide +kernel, rfl, by decide +kernel⟩

/-- One byte, then one byte, on LF128; and one block, then one block, on BLK. -/
theorem test_witness_ChunkSizeIndependence :
    live.cfg.InRange ∧
    (∃ t₁, exec (.process 0) (live.withArgs 0 1 8) = .next t₁ ∧ statusClass t₁.status = 0 ∧
      ∃ t₂, exec (.process 0) (t₁.withArgs (0 + 1) 1 (8 + 1)) = .next t₂ ∧ statusClass t₂.status = 0) ∧
    (∃ t₁, exec (.process 1) (live.withArgs 0 16 8) = .next t₁ ∧ statusClass t₁.status = 0 ∧
      ∃ t₂, exec (.process 1) (t₁.withArgs (0 + 16) 16 (8 + 16)) = .next t₂ ∧ statusClass t₂.status = 0) :=
  ⟨test_witness_inv.cfg_inRange,
    ⟨_, eq_nextOf (by decide +kernel), by decide +kernel, answers (by decide +kernel)⟩,
    ⟨_, eq_nextOf (by decide +kernel), by decide +kernel, answers (by decide +kernel)⟩⟩

/-- The receiver: context 3 holds the sender's instance and IBUF the sender's output, 71 02. -/
def receiver : State := { live.setContext 3 (.ready (.stream lfMid) lfImage) with ibuf := [(0, 0x71), (1, 0x02)] }

theorem test_witness_StreamDecryptsWhatItEncrypts :
    live.cfg = receiver.cfg ∧ live.arg1 = receiver.arg1 ∧ live.context 0 = .ready (.stream lfMid) lfImage ∧
    receiver.context 3 = .ready (.stream lfMid) lfImage ∧
    (∃ t, exec (.process 0) live = .next t ∧ statusClass t.status = 0 ∧
      ∀ i < live.arg1.toNat, receiver.readByte .ibuf (receiver.arg0.toNat + i) = t.readByte .obuf (live.arg2.toNat + i)) ∧
    (∃ t', exec (.process 3) receiver = .next t' ∧ statusClass t'.status = 0) := by
  refine ⟨rfl, rfl, rfl, rfl, ⟨_, eq_nextOf (by decide +kernel), by decide +kernel, ?_⟩, answers (by decide +kernel)⟩
  intro i hi
  have h : i < 2 := hi
  interval_cases i <;> decide +kernel

theorem test_witness_RetbyteCompletes :
    live.hasContext 0 ∧ live.context 0 = .ready (.stream lfMid) lfImage ∧
    nextByte live.cfg lfMid = some (0x30, .lf128 (lfAt 3 3)) := ⟨test_witness_InitCompletes.2.2.1, rfl, rfl⟩

theorem test_witness_ResetCompletes : live.hasContext 0 ∧ live.context 0 = .ready (.stream lfMid) lfImage :=
  ⟨test_witness_InitCompletes.2.2.1, rfl⟩

/-- A context as INIT leaves it, one PROCESS of it pending. -/
def initialised : State := (live.setContext 0 (.ready lfImage lfImage)).withFetchWord 32 0x20000000

/-- No word of INIT or RESTORE is pending in `initialised`. -/
theorem initialised_pending (w : Word) (i : Instr)
    (hw : HostAccess.write initialised.cfg.coreBase 4 w ∈ initialised.pending) (hd : decode w = .ok i) :
    ¬ i.IsInit ∧ ∀ j, i ≠ .restore 0 j := by
  obtain rfl : w = 0x20000000 := by
    simp only [initialised, State.withFetchWord, commandWrite, List.mem_cons] at hw
    rcases hw with h | h
    · exact (HostAccess.write.inj h).2.2
    · cases h
  obtain rfl : Instr.process 0 = i := Except.ok.inj ((by decide : decode 0x20000000 = .ok (.process 0)).symm.trans hd)
  refine ⟨?_, fun j h => by cases h⟩
  rintro ⟨eng, c, a, h⟩
  cases eng <;> cases h

theorem test_witness_ResetReturnsToInit :
    initialised.context 0 = .ready lfImage lfImage ∧
    (∀ w i, HostAccess.write initialised.cfg.coreBase 4 w ∈ initialised.pending → decode w = .ok i → i.ctxOf = 0 →
      ¬ i.IsInit ∧ ∀ j, i ≠ .restore 0 j) ∧
    ∃ u v, Sys2Proof.core.run 1 initialised = .next u ∧ exec (.reset 0) u = .next v ∧ statusClass v.status = 0 := by
  refine ⟨rfl, fun w i hw hd _ => initialised_pending w i hw hd, nextOf (step initialised), _, ?_,
    eq_nextOf (by decide +kernel), by decide +kernel⟩
  simp only [Host.Core.run, Sys2Proof.core]
  rw [eq_nextOf (show isNext (step initialised) = true by decide +kernel)]
  rfl

/-- The same state, and the step it takes; and a context without an instance. -/
theorem test_witness_StepKeepsResetImage :
    HoldsImage 0 lfImage initialised ∧ isNext (step initialised) = true ∧ HoldsImage 3 lfImage live :=
  ⟨⟨.inl ⟨lfImage, rfl⟩, fun w i hw hd _ => initialised_pending w i hw hd⟩, by decide +kernel,
    ⟨.inr (.inl rfl), fun _ _ hw => by cases hw⟩⟩

theorem test_witness_SnapshotCompletes :
    live.hasContext 0 ∧ live.hasSlot 3 ∧ live.context 0 = .ready (.stream lfMid) lfImage :=
  ⟨test_witness_InitCompletes.2.2.1, by unfold State.hasSlot; decide, rfl⟩

/-- Into the EMPTY context 3 and into the READY context 0 of the snapshot's engine. -/
theorem test_witness_RestoreCompletes :
    live.hasContext 3 ∧ live.hasSlot 0 ∧ live.snapshotAt 0 = some { cur := .stream lfMid, rst := lfImage } ∧
    live.context 3 = .empty ∧ live.hasContext 0 ∧ live.context 0 = .ready (.stream lfMid) lfImage ∧
    (CipherState.stream lfMid).engine = .lf128 :=
  ⟨test_witness_InitCompletes.1, by unfold State.hasSlot; decide, rfl, rfl, test_witness_InitCompletes.2.2.1, rfl, rfl⟩

theorem test_witness_DropCompletes : live.hasContext 3 ∧ live.hasContext 2 :=
  ⟨test_witness_InitCompletes.1, by unfold State.hasContext; decide⟩

/-- Twins of `live`: contexts 0 and 3 hold one instance. -/
def twin : State := live.setContext 3 (.ready (.stream lfMid) lfImage)

/-- SNAPSHOT of context 0 into slot 2, RESTORE into context 3; and twins with a PROCESS for each. -/
theorem test_witness_SnapshotEquivalence :
    live.Inv ∧ exec (.snapshot 0 2) live = .next shot ∧ statusClass shot.status = 0 ∧
    (∃ u, exec (.restore 3 2) shot = .next u ∧ statusClass u.status = 0) ∧
    Twins 0 3 twin twin ∧ (Instr.process 1).IsProcess ∧
    (∃ t, exec ((Instr.process 1).retarget 0) twin = .next t ∧ statusClass t.status = 0) := by
  refine ⟨test_witness_inv, eq_nextOf (by decide +kernel), by decide +kernel, answers (by decide +kernel), ?_, ⟨1, rfl⟩,
    answers (by decide +kernel)⟩
  refine ⟨rfl, ⟨?_, by decide⟩, ⟨?_, by decide⟩, rfl, rfl, fun _ _ => rfl, ⟨rfl, rfl, rfl⟩⟩ <;>
    unfold State.hasContext <;> decide

/-- A PROCESS that succeeds with its range 8, 9 inside it and 7, 10 outside, one refused, one that ends in WORD_LIMIT, and
an INIT. -/
theorem test_witness_CommandsReadOnlyTheirOperands :
    (∃ t, exec (.process 0) live = .next t ∧ statusClass t.status = 0) ∧ ¬ (Instr.process 0).IsInit ∧
    (∃ t, exec (.initSrp 0 ⟨true, true, true, 5, 16⟩) live = .next t ∧ statusClass t.status = 0) ∧
    ¬ (Instr.initSrp 0 ⟨true, true, true, 5, 16⟩).IsProcess ∧ (3 : BitVec 4) ≠ (Instr.process 0).ctxOf ∧
    (Instr.process 0).IsProcess ∧ live.outOff = 8 ∧ live.outOff + live.len = 10 ∧
    (∃ t, exec (.process 3) live = .next t ∧ statusClass t.status = 2) ∧
    (∃ t, exec (.process 0) spent = .next t ∧ statusClass t.status = 3) := by
  refine ⟨answers (by decide +kernel), ?_, answers (by decide +kernel), ?_, by decide, ⟨0, rfl⟩, rfl, rfl,
    answers (by decide +kernel), answers (by decide +kernel)⟩
  · rintro ⟨eng, c, a, h⟩; cases eng <;> cases h
  · rintro ⟨c, h⟩; cases h

/-- PROCESS on context 0 and SNAPSHOT of context 1, in both orders. -/
theorem test_witness_CommandsOnDifferentContextsCommute :
    (Instr.process 0).ctxOf ≠ (Instr.snapshot 1 3).ctxOf ∧
    (∀ k, (Instr.process 0).slotOf = some k → (Instr.snapshot 1 3).slotOf ≠ some k) ∧
    (∃ t u, exec (.process 0) live = .next t ∧ exec (.snapshot 1 3) t = .next u ∧ statusClass u.status = 0) ∧
    (∃ t' u', exec (.snapshot 1 3) live = .next t' ∧ exec (.process 0) t' = .next u' ∧ statusClass u'.status = 0) :=
  ⟨by decide, fun _ h => by simp [Instr.slotOf] at h, ⟨_, _, eq_nextOf (by decide +kernel), eq_nextOf (by decide +kernel), by decide +kernel⟩,
    ⟨_, _, eq_nextOf (by decide +kernel), eq_nextOf (by decide +kernel), by decide +kernel⟩⟩

theorem test_witness_KeyScheduleImmutable :
    live.Inv ∧ live.context 1 = .ready blkCtx blkCtx ∧ live.context 0 = .ready (.stream lfMid) lfImage ∧
    (∃ t, exec (.reset 1) live = .next t ∧ t.context 1 = .ready blkCtx blkCtx) ∧
    (∃ t, exec (.process 0) live = .next t ∧ t.context 0 = .ready (.stream (.lf128 (lfAt 3 4))) lfImage) ∧
    (∃ t, exec (.retbyte 0 0) live = .next t ∧ t.context 0 = .ready (.stream (.lf128 (lfAt 3 3))) lfImage) :=
  ⟨test_witness_inv, rfl, rfl, ⟨_, eq_nextOf (by decide +kernel), by decide +kernel⟩,
    ⟨_, eq_nextOf (by decide +kernel), by decide +kernel⟩, ⟨_, eq_nextOf (by decide +kernel), by decide +kernel⟩⟩

theorem test_witness_StepKeepsInvariant :
    (live.withFetchWord 32 0x20000000).Inv ∧ isNext (step (live.withFetchWord 32 0x20000000)) = true :=
  ⟨⟨test_witness_inv.1, test_witness_inv.2, test_witness_inv.3, test_witness_inv.4, test_witness_inv.5, test_witness_inv.6,
    test_witness_inv.7, test_witness_inv.8, test_witness_inv.9, test_witness_inv.10⟩, by decide +kernel⟩

/-- The ends of the ranges: 0 and 2^31 - 1, shifts 1 and 30, cells of 1 and of 2^31 - 1. -/
theorem test_witness_LfsrArithmeticIsExact :
    (0 : Word).toNat < 2 ^ 31 ∧ (0x7FFFFFFF : Word).toNat < 2 ^ 31 ∧ add31 0x7FFFFFFF 0x7FFFFFFF = 0x7FFFFFFF ∧
    rotl31 0x40000000 1 = 1 ∧ rotl31 1 30 = 0x40000000 ∧
    (∀ i : Fin 16, 0 < (lfAt 0 4).s[i].toNat ∧ (lfAt 0 4).s[i].toNat < 2 ^ 31) ∧
    (∀ i : Fin 16, 0 < (Vector.replicate 16 (0x7FFFFFFF : Word))[i].toNat ∧
      (Vector.replicate 16 (0x7FFFFFFF : Word))[i].toNat < 2 ^ 31) := by decide

theorem test_witness_BlockDecryptInvertsEncrypt :
    (List.replicate 16 (0xFE : Byte)).length = 16 ∧ (List.replicate 24 (0xFE : Byte)).length = 24 ∧
    (List.replicate 32 (0xFE : Byte)).length = 32 := by decide

end Sys2Proof.Tests
end

section
/-!
SUPPORT. The fields of a STATUS word (10_state.md R40, 60_exceptions.md R178 to R182), and what the three shared outcomes
of a command (`done`, `refusedWith`, `killedWith`) put into it.
-/

namespace Sys2Proof.Machine

/-- Bit `j` of a STATUS word (10_state.md R40). -/
theorem getLsbD_statusWord (cw : Word) (cls : BitVec 2) (code : BitVec 4) (j : Nat) :
    (statusWord cw cls code).getLsbD j =
      if j < 2 then cls.getLsbD j
      else if j - 2 < 2 then (0#2).getLsbD (j - 2)
      else if j - 2 - 2 < 4 then code.getLsbD (j - 2 - 2)
      else if j - 2 - 2 - 4 < 4 then (ctxField cw).getLsbD (j - 2 - 2 - 4)
      else if j - 2 - 2 - 4 - 4 < 4 then (opField cw).getLsbD (j - 2 - 2 - 4 - 4)
      else (0#16).getLsbD (j - 2 - 2 - 4 - 4 - 4) :=
  (BitVec.getLsbD_append (x := 0#16 ++ opField cw ++ ctxField cw ++ code ++ 0#2) (y := cls)).trans
    (by simp only [BitVec.getLsbD_append])

@[simp] theorem statusClass_statusWord (cw : Word) (cls : BitVec 2) (code : BitVec 4) :
    statusClass (statusWord cw cls code) = cls := by
  apply BitVec.eq_of_getLsbD_eq
  intro j hj
  simp [statusClass, getLsbD_statusWord, hj]

@[simp] theorem statusCode_statusWord (cw : Word) (cls : BitVec 2) (code : BitVec 4) :
    statusCode (statusWord cw cls code) = code := by
  apply BitVec.eq_of_getLsbD_eq
  intro j hj
  have h2 : ¬ 4 + j < 2 := by omega
  have h4 : ¬ 4 + j - 2 < 2 := by omega
  have h8 : 4 + j - 2 - 2 = j := by omega
  simp only [statusCode, BitVec.getLsbD_extractLsb', getLsbD_statusWord, hj, h2, h4, h8]
  simp

/-- The reserved fields of a STATUS word are 0 (10_state.md R40). -/
theorem statusWord_reserved (cw : Word) (cls : BitVec 2) (code : BitVec 4) :
    (statusWord cw cls code).extractLsb' 2 2 = 0#2 ∧ (statusWord cw cls code).extractLsb' 16 16 = 0#16 := by
  constructor <;> apply BitVec.eq_of_getLsbD_eq <;> intro j hj <;>
    simp only [BitVec.getLsbD_extractLsb', getLsbD_statusWord] <;> interval_cases j <;> simp

/-- Success is class 0, code 0 (60_exceptions.md R181). -/
theorem legalOutcome_ok : LegalOutcome 0 0 := .inl ⟨rfl, rfl⟩

/-- Every error has a class and a code that CORE produces (60_exceptions.md R178 to R181). -/
theorem legalOutcome_error (e : CoreError) : LegalOutcome e.cls e.code := by
  cases e with
  | usage e => exact .inr (.inr (.inl ⟨rfl, by cases e <;> decide, by cases e <;> decide⟩))
  | terminal e =>
    cases e with
    | config e => exact .inr (.inl ⟨rfl, by cases e <;> decide, by cases e <;> decide⟩)
    | exhausted e => cases e; exact .inr (.inr (.inr ⟨rfl, rfl⟩))

/-- A terminal error never has the class of success or of a usage error. -/
theorem TerminalError.cls_eq (e : TerminalError) : e.cls = 1 ∨ e.cls = 3 := by
  cases e
  · exact .inl rfl
  · exact .inr rfl

section
variable (s : State) (i : Instr)

@[simp] theorem statusClass_done (result : Word) : statusClass (s.done i result).status = 0 :=
  statusClass_statusWord _ _ _

@[simp] theorem statusClass_refusedWith (e : UsageError) : statusClass (s.refusedWith i e).status = 2 :=
  statusClass_statusWord _ _ _

@[simp] theorem statusClass_killedWith (c : BitVec 4) (e : TerminalError) :
    statusClass (s.killedWith i c e).status = e.cls :=
  statusClass_statusWord _ _ _

end

end Sys2Proof.Machine
end

section
/-!
SUPPORT. One lemma per field for the three shared outcomes of a command: what `done`, `refusedWith` and `killedWith` write,
and what they leave as it was.
-/

namespace Sys2Proof.Machine

section
variable (s : State) (i : Instr)

@[simp] theorem done_result (r : Word) : (s.done i r).result = r := rfl
@[simp] theorem done_cfg (r : Word) : (s.done i r).cfg = s.cfg := rfl
@[simp] theorem done_arg0 (r : Word) : (s.done i r).arg0 = s.arg0 := rfl
@[simp] theorem done_arg1 (r : Word) : (s.done i r).arg1 = s.arg1 := rfl
@[simp] theorem done_arg2 (r : Word) : (s.done i r).arg2 = s.arg2 := rfl
@[simp] theorem done_pending (r : Word) : (s.done i r).pending = s.pending := rfl
@[simp] theorem done_busData (r : Word) : (s.done i r).busData = s.busData := rfl
@[simp] theorem done_context (r : Word) (c : BitVec 4) : (s.done i r).context c = s.context c := rfl
@[simp] theorem done_snapshotAt (r : Word) (k : BitVec 4) : (s.done i r).snapshotAt k = s.snapshotAt k := rfl
@[simp] theorem done_readByte (r : Word) (buf : Buffer) (a : Nat) : (s.done i r).readByte buf a = s.readByte buf a := by
  simp [State.done]

@[simp] theorem refusedWith_result (e : UsageError) : (s.refusedWith i e).result = 0 := rfl
@[simp] theorem refusedWith_cfg (e : UsageError) : (s.refusedWith i e).cfg = s.cfg := rfl
@[simp] theorem refusedWith_arg0 (e : UsageError) : (s.refusedWith i e).arg0 = s.arg0 := rfl
@[simp] theorem refusedWith_arg1 (e : UsageError) : (s.refusedWith i e).arg1 = s.arg1 := rfl
@[simp] theorem refusedWith_arg2 (e : UsageError) : (s.refusedWith i e).arg2 = s.arg2 := rfl
@[simp] theorem refusedWith_pending (e : UsageError) : (s.refusedWith i e).pending = s.pending := rfl
@[simp] theorem refusedWith_busData (e : UsageError) : (s.refusedWith i e).busData = s.busData := rfl
@[simp] theorem refusedWith_context (e : UsageError) (c : BitVec 4) : (s.refusedWith i e).context c = s.context c := rfl
@[simp] theorem refusedWith_snapshotAt (e : UsageError) (k : BitVec 4) :
    (s.refusedWith i e).snapshotAt k = s.snapshotAt k := rfl
@[simp] theorem refusedWith_readByte (e : UsageError) (buf : Buffer) (a : Nat) :
    (s.refusedWith i e).readByte buf a = s.readByte buf a := by simp [State.refusedWith]

variable (c : BitVec 4) (e : TerminalError)

@[simp] theorem killedWith_result : (s.killedWith i c e).result = 0 := rfl
@[simp] theorem killedWith_cfg : (s.killedWith i c e).cfg = s.cfg := rfl
@[simp] theorem killedWith_arg0 : (s.killedWith i c e).arg0 = s.arg0 := rfl
@[simp] theorem killedWith_arg1 : (s.killedWith i c e).arg1 = s.arg1 := rfl
@[simp] theorem killedWith_arg2 : (s.killedWith i c e).arg2 = s.arg2 := rfl
@[simp] theorem killedWith_pending : (s.killedWith i c e).pending = s.pending := rfl
@[simp] theorem killedWith_busData : (s.killedWith i c e).busData = s.busData := rfl
@[simp] theorem killedWith_context (d : BitVec 4) : (s.killedWith i c e).context d = (s.setContext c (.dead e)).context d :=
  rfl
@[simp] theorem killedWith_snapshotAt (k : BitVec 4) : (s.killedWith i c e).snapshotAt k = s.snapshotAt k := rfl
@[simp] theorem killedWith_readByte (buf : Buffer) (a : Nat) :
    (s.killedWith i c e).readByte buf a = s.readByte buf a := by simp [State.killedWith]

end

/-- A context after a write of context `c`: the value written, or what it was. -/
theorem context_setContext_cases (s : State) (c d : BitVec 4) (x : Context) :
    (d = c ∧ (s.setContext c x).context d = x) ∨ (s.setContext c x).context d = s.context d := by
  by_cases hd : d = c
  · subst hd
    by_cases hlen : d.toNat < s.ctx.length
    · exact .inl ⟨rfl, context_setContext_same s hlen x⟩
    · have hset : s.ctx.set d.toNat x = s.ctx := List.set_eq_of_length_le (Nat.le_of_not_lt hlen)
      exact .inr (by simp only [State.setContext, State.context, hset])
  · exact .inr (context_setContext_ne s hd x)

@[simp] theorem writeBytes_obuf_readByte (s : State) (base : Nat) (bs : List Byte) {buf : Buffer} (h : buf ≠ .obuf) (a : Nat) :
    (s.writeBytes .obuf base bs).readByte buf a = s.readByte buf a := readByte_writeBytes_other s h base bs a

/-- The free values of a WORD_LIMIT stand in `OBUF` only (40_contract.md R92). -/
theorem readByte_leaveResidue_other (s : State) {buf : Buffer} (h : buf ≠ .obuf) (a : Nat) :
    s.leaveResidue.readByte buf a = s.readByte buf a := by
  rw [← readByte_writeBytes_other s h s.outOff
    ((List.range s.len).map fun i => Config.residueByte s.freeCount (s.outOff + i))]
  exact readByte_congr (by cases buf <;> rfl) a

@[simp] theorem leaveResidue_snapshotAt (s : State) (k : BitVec 4) : s.leaveResidue.snapshotAt k = s.snapshotAt k := rfl

end Sys2Proof.Machine
end

section
/-!
SUPPORT. Everything a command can do, in one relation: `CommandEffect s i t` lists the outcomes of command `i` in state `s`
with the next state `t` of each, and `commandEffect_of_exec` ties it to `exec`. What every command keeps is proved from it
by cases.
-/

namespace Sys2Proof.Machine

/-- The outcomes of a command and their next states. A usage error comes without its cause, which no invariant needs. -/
inductive CommandEffect (s : State) : Instr → State → Prop
  | refused (i : Instr) (e : UsageError) : CommandEffect s i (s.refusedWith i e)
  | initKilled (eng : Engine) (c : BitVec 4) (a : InitOperands) (e : ConfigError) :
      CommandEffect s (initOf eng c a) (s.killedWith (initOf eng c a) c (.config e))
  | initDone (eng : Engine) (c : BitVec 4) (a : InitOperands) (check : configCheck eng a = none) :
      CommandEffect s (initOf eng c a)
        ((s.setContext c (.ready (setupOf eng a s) (setupOf eng a s))).done (initOf eng c a) 0)
  | processBlk (c : BitVec 4) (st : BlkState) (rst : CipherState) (ready : s.context c = .ready (.blk st) rst)
      (fit : s.rangesFit = true) (blocks : s.len % 16 = 0) :
      CommandEffect s (.process c) ((s.writeBytes .obuf s.outOff (blkOutput s st)).done (.process c) s.arg1)
  | processLimit (c : BitVec 4) (fit : s.rangesFit = true) :
      CommandEffect s (.process c) (s.leaveResidue.killedWith (.process c) c (.exhausted .wordLimit))
  | processStream (c : BitVec 4) (st st' : StreamState) (rst : CipherState) (ks : List Byte)
      (ready : s.context c = .ready (.stream st) rst) (fit : s.rangesFit = true)
      (taken : takeBytes s.cfg s.len st = some (ks, st')) :
      CommandEffect s (.process c)
        (((s.writeBytes .obuf s.outOff (xorBytes s.inputBytes ks)).setContext c (.ready (.stream st') rst)).done
          (.process c) s.arg1)
  | retbyteLimit (c : BitVec 4) (b : Byte) :
      CommandEffect s (.retbyte c b) (s.killedWith (.retbyte c b) c (.exhausted .wordLimit))
  | retbyteDone (c : BitVec 4) (b kb : Byte) (st st' : StreamState) (rst : CipherState)
      (ready : s.context c = .ready (.stream st) rst) (taken : nextByte s.cfg st = some (kb, st')) :
      CommandEffect s (.retbyte c b)
        ((s.setContext c (.ready (.stream st') rst)).done (.retbyte c b) ((b ^^^ kb).setWidth 32))
  | resetDone (c : BitVec 4) (cur rst : CipherState) (ready : s.context c = .ready cur rst) :
      CommandEffect s (.reset c) ((s.setContext c (.ready rst rst)).done (.reset c) 0)
  | snapshotDone (c k : BitVec 4) (cur rst : CipherState) (ready : s.context c = .ready cur rst) :
      CommandEffect s (.snapshot c k)
        ((s.setSnapshot k (some { cur := cur, rst := rst })).done (.snapshot c k) 0)
  | restoreDone (c k : BitVec 4) (snap : Snapshot) (used : s.snapshotAt k = some snap) :
      CommandEffect s (.restore c k) ((s.setContext c (.ready snap.cur snap.rst)).done (.restore c k) 0)
  | dropDone (c : BitVec 4) : CommandEffect s (.drop c) ((s.setContext c .empty).done (.drop c) 0)

section
variable (s : State)

theorem execInit_effect (eng : Engine) (c : BitVec 4) (a : InitOperands) :
    ∃ t, exec (initOf eng c a) s = .next t ∧ CommandEffect s (initOf eng c a) t := by
  rcases execInit_cases s eng c a with ⟨-, h⟩ | ⟨-, -, h⟩ | ⟨-, -, e, -, h⟩ | ⟨-, -, hk, h⟩
  · exact ⟨_, h, .refused _ _⟩
  · exact ⟨_, h, .refused _ _⟩
  · exact ⟨_, h, .initKilled eng c a e⟩
  · exact ⟨_, h, .initDone eng c a hk⟩

theorem execProcess_effect (c : BitVec 4) : ∃ t, execProcess c s = .next t ∧ CommandEffect s (.process c) t := by
  rcases execProcess_cases s c with ⟨-, h⟩ | ⟨-, -, h⟩ | ⟨-, -, h⟩ | ⟨-, -, h⟩ | ⟨-, hf, st, rst, hx, hl, h⟩ |
    ⟨-, hf, -, -, -, -, h⟩ | ⟨-, hf, st, rst, ks, st', hx, ht, h⟩
  · exact ⟨_, h, .refused _ _⟩
  · exact ⟨_, h, .refused _ _⟩
  · exact ⟨_, h, .refused _ _⟩
  · exact ⟨_, h, .refused _ _⟩
  · exact ⟨_, h, .processBlk c st rst hx hf hl⟩
  · exact ⟨_, h, .processLimit c hf⟩
  · exact ⟨_, h, .processStream c st st' rst ks hx hf ht⟩

theorem execRetbyte_effect (c : BitVec 4) (b : Byte) :
    ∃ t, execRetbyte c b s = .next t ∧ CommandEffect s (.retbyte c b) t := by
  rcases execRetbyte_cases s c b with ⟨-, h⟩ | ⟨-, -, h⟩ | ⟨-, -, h⟩ | ⟨-, -, h⟩ | ⟨-, -, -, -, -, h⟩ |
    ⟨-, st, rst, kb, st', hx, hn, h⟩
  · exact ⟨_, h, .refused _ _⟩
  · exact ⟨_, h, .refused _ _⟩
  · exact ⟨_, h, .refused _ _⟩
  · exact ⟨_, h, .refused _ _⟩
  · exact ⟨_, h, .retbyteLimit c b⟩
  · exact ⟨_, h, .retbyteDone c b kb st st' rst hx hn⟩

theorem execReset_effect (c : BitVec 4) : ∃ t, execReset c s = .next t ∧ CommandEffect s (.reset c) t := by
  rcases execReset_cases s c with ⟨-, h⟩ | ⟨-, -, h⟩ | ⟨-, -, h⟩ | ⟨-, cur, rst, hx, h⟩
  · exact ⟨_, h, .refused _ _⟩
  · exact ⟨_, h, .refused _ _⟩
  · exact ⟨_, h, .refused _ _⟩
  · exact ⟨_, h, .resetDone c cur rst hx⟩

theorem execSnapshot_effect (c k : BitVec 4) :
    ∃ t, execSnapshot c k s = .next t ∧ CommandEffect s (.snapshot c k) t := by
  rcases execSnapshot_cases s c k with ⟨-, h⟩ | ⟨-, -, -, h⟩ | ⟨-, -, -, h⟩ | ⟨-, -, cur, rst, hx, h⟩
  · exact ⟨_, h, .refused _ _⟩
  · exact ⟨_, h, .refused _ _⟩
  · exact ⟨_, h, .refused _ _⟩
  · exact ⟨_, h, .snapshotDone c k cur rst hx⟩

theorem execRestore_effect (c k : BitVec 4) :
    ∃ t, execRestore c k s = .next t ∧ CommandEffect s (.restore c k) t := by
  rcases execRestore_cases s c k with ⟨-, h⟩ | ⟨-, -, -, h⟩ | ⟨-, -, -, -, h⟩ | ⟨-, -, -, h⟩ | ⟨-, -, snap, hs, -, h⟩
  · exact ⟨_, h, .refused _ _⟩
  · exact ⟨_, h, .refused _ _⟩
  · exact ⟨_, h, .refused _ _⟩
  · exact ⟨_, h, .refused _ _⟩
  · exact ⟨_, h, .restoreDone c k snap hs⟩

theorem execDrop_effect (c : BitVec 4) : ∃ t, execDrop c s = .next t ∧ CommandEffect s (.drop c) t := by
  rcases execDrop_cases s c with ⟨-, h⟩ | ⟨-, h⟩
  · exact ⟨_, h, .refused _ _⟩
  · exact ⟨_, h, .dropDone c⟩

/-- Every command answers a next state, one of those listed (60_exceptions.md R182, R183). -/
theorem exec_effect (i : Instr) : ∃ t, exec i s = .next t ∧ CommandEffect s i t := by
  cases i with
  | initLf128 c a => exact execInit_effect s .lf128 c a
  | initLf256 c a => exact execInit_effect s .lf256 c a
  | initCtr c a => exact execInit_effect s .ctr c a
  | initSrp c a => exact execInit_effect s .srp c a
  | initBlk c a => exact execInit_effect s .blk c a
  | process c => exact execProcess_effect s c
  | retbyte c b => exact execRetbyte_effect s c b
  | reset c => exact execReset_effect s c
  | snapshot c k => exact execSnapshot_effect s c k
  | restore c k => exact execRestore_effect s c k
  | drop c => exact execDrop_effect s c

end

/-- The next state of a command is one of those listed. -/
theorem commandEffect_of_exec {s t : State} {i : Instr} (h : exec i s = .next t) : CommandEffect s i t := by
  obtain ⟨u, hu, he⟩ := exec_effect s i
  obtain rfl : u = t := Host.Outcome.next.inj (hu.symm.trans h)
  exact he

/-- An INIT is no command of another row. -/
theorem initOf_ne (eng : Engine) (c : BitVec 4) (a : InitOperands) :
    (∀ d, initOf eng c a ≠ .process d) ∧ (∀ d b, initOf eng c a ≠ .retbyte d b) ∧ (∀ d, initOf eng c a ≠ .reset d) ∧
    (∀ d k, initOf eng c a ≠ .snapshot d k) := by
  cases eng <;> refine ⟨?_, ?_, ?_, ?_⟩ <;> intros <;> nofun

end Sys2Proof.Machine
end

section
/-!
SUPPORT. The LFSR engines LF128 and LF256 keep the ranges of 10_state.md R25: every cell in `1..2^31-1`, a buffer of four
bytes (41_lfsr_fsm.md R110 to R120).
-/

namespace Sys2Proof.Machine

theorem toNat_pos_of_ne_zero {n : Nat} {x : BitVec n} (h : x ≠ 0) : 0 < x.toNat :=
  Nat.pos_of_ne_zero fun hz => h (BitVec.eq_of_toNat_eq (by simpa using hz))

/-- The cell range of 10_state.md R25. -/
def CellInRange (w : Word) : Prop := 0 < w.toNat ∧ w.toNat < 2 ^ 31

/-- The cell range of `LfState.Wf`, over the cells as a list. -/
theorem cells_inRange_iff (v : Vector Word 16) :
    (∀ i : Fin 16, 0 < v[i].toNat ∧ v[i].toNat < 2 ^ 31) ↔ ∀ w ∈ v.toList, CellInRange w := by
  constructor
  · intro h w hw
    obtain ⟨i, hi, rfl⟩ := Vector.mem_iff_getElem.mp (Vector.mem_toList_iff.mp hw)
    exact h ⟨i, hi⟩
  · intro h i
    exact h _ (Vector.mem_toList_iff.mpr (Vector.getElem_mem _))

/-- `add31` stays within 31 bits (41_lfsr_fsm.md R110). -/
theorem add31_lt {a b : Word} (ha : a.toNat < 2 ^ 31) (hb : b.toNat < 2 ^ 31) : (add31 a b).toNat < 2 ^ 31 := by
  simp only [add31, BitVec.toNat_ofNat]
  refine Nat.lt_of_le_of_lt (Nat.mod_le _ _) ?_
  have hsum : a.toNat + b.toNat < 2 * 2 ^ 31 - 1 := by omega
  generalize a.toNat + b.toNat = n at hsum
  omega

/-- `rotl31` stays within 31 bits (41_lfsr_fsm.md R110). -/
theorem rotl31_lt (a : Word) (n : Nat) : (rotl31 a n).toNat < 2 ^ 31 := by
  rw [rotl31, BitVec.toNat_and]
  exact Nat.lt_of_le_of_lt Nat.and_le_right (by decide)

/-- The feedback value stays within 31 bits when its first cell does (41_lfsr_fsm.md R118). -/
theorem lfFeedback_lt {s : Vector Word 16} (h : s[0].toNat < 2 ^ 31) : (lfFeedback s).toNat < 2 ^ 31 :=
  add31_lt (add31_lt (add31_lt (add31_lt (add31_lt h (rotl31_lt _ _)) (rotl31_lt _ _)) (rotl31_lt _ _)) (rotl31_lt _ _))
    (rotl31_lt _ _)

/-- `Shift` of a 31-bit value keeps the cells in range: a 0 enters as `2^31 - 1` (41_lfsr_fsm.md R118). -/
theorem lfShift_inRange {s : Vector Word 16} {v : Word} (h : ∀ i : Fin 16, 0 < s[i].toNat ∧ s[i].toNat < 2 ^ 31)
    (hv : v.toNat < 2 ^ 31) : ∀ i : Fin 16, 0 < (lfShift s v)[i].toNat ∧ (lfShift s v)[i].toNat < 2 ^ 31 := by
  have hnew : CellInRange (if v = 0 then 0x7FFFFFFF else v) := by
    by_cases h0 : v = 0
    · rw [if_pos h0]; exact ⟨by decide, by decide⟩
    · rw [if_neg h0]; exact ⟨toNat_pos_of_ne_zero h0, hv⟩
  rw [cells_inRange_iff]
  simp only [lfShift, Vector.toList_mk, List.forall_mem_cons]
  exact ⟨h 1, h 2, h 3, h 4, h 5, h 6, h 7, h 8, h 9, h 10, h 11, h 12, h 13, h 14, h 15, hnew, nofun⟩

/-- A concatenation as a number. -/
theorem toNat_append_eq_add {m n : Nat} (x : BitVec m) (y : BitVec n) : (x ++ y).toNat = x.toNat * 2 ^ n + y.toNat := by
  rw [BitVec.toNat_append, ← Nat.shiftLeft_add_eq_or_of_lt y.isLt, Nat.shiftLeft_eq]

/-- A loaded cell of LF128 is in range, its constant being non-zero (41_lfsr_fsm.md R111). -/
theorem lfCell128_inRange (k v : Byte) {d : BitVec 15} (hd : d ≠ 0) : CellInRange (lfCell128 k d v) := by
  have hpos := toNat_pos_of_ne_zero hd
  have hk := k.isLt
  have hv := v.isLt
  have hlt := d.isLt
  simp only [CellInRange, lfCell128, toNat_append_eq_add, BitVec.toNat_ofNat]
  omega

/-- A loaded cell of LF256 is in range, its constant being non-zero (41_lfsr_fsm.md R112). -/
theorem lfCell256_inRange (a c e : Byte) {b : BitVec 7} (hb : b ≠ 0) : CellInRange (lfCell256 a b c e) := by
  have hpos := toNat_pos_of_ne_zero hb
  have ha := a.isLt
  have hc := c.isLt
  have he := e.isLt
  have hlt := b.isLt
  simp only [CellInRange, lfCell256, toNat_append_eq_add, BitVec.toNat_ofNat]
  omega

/-- Bits OR-ed into a non-zero constant leave it non-zero. -/
theorem or_ne_zero {n : Nat} {x : BitVec n} (h : x ≠ 0) (y : BitVec n) : x ||| y ≠ 0 :=
  fun hz => h (BitVec.or_eq_zero_iff.mp hz).1

theorem lfLoad128_inRange {rom : Rom} (h : LfConstantsNonzero rom) (key iv : List Byte) (i : Fin 16) :
    0 < (lfLoad128 rom key iv)[i].toNat ∧ (lfLoad128 rom key iv)[i].toNat < 2 ^ 31 := by
  have hcell (i : Fin 16) : CellInRange (lfCell128 (byteAt key i) rom.lfD128[i] (byteAt iv i)) :=
    lfCell128_inRange _ _ (h.1 i)
  revert i
  rw [cells_inRange_iff]
  simp only [lfLoad128, Vector.toList_mk, List.forall_mem_cons]
  exact ⟨hcell 0, hcell 1, hcell 2, hcell 3, hcell 4, hcell 5, hcell 6, hcell 7, hcell 8, hcell 9, hcell 10, hcell 11,
    hcell 12, hcell 13, hcell 14, hcell 15, nofun⟩

theorem lfLoad256_inRange {rom : Rom} (h : LfConstantsNonzero rom) (key iv : List Byte) (i : Fin 16) :
    0 < (lfLoad256 rom key iv)[i].toNat ∧ (lfLoad256 rom key iv)[i].toNat < 2 ^ 31 := by
  have plain (i : Fin 16) (a c e : Byte) : CellInRange (lfCell256 a rom.lfD256[i] c e) := lfCell256_inRange _ _ _ (h.2 i)
  have mixed (i : Fin 16) (a c e : Byte) (v : BitVec 7) : CellInRange (lfCell256 a (rom.lfD256[i] ||| v) c e) :=
    lfCell256_inRange _ _ _ (or_ne_zero (h.2 i) v)
  revert i
  rw [cells_inRange_iff]
  simp only [lfLoad256, Vector.toList_mk, List.forall_mem_cons]
  exact ⟨plain 0 _ _ _, plain 1 _ _ _, plain 2 _ _ _, plain 3 _ _ _, plain 4 _ _ _, mixed 5 _ _ _ _, mixed 6 _ _ _ _,
    mixed 7 _ _ _ _, mixed 8 _ _ _ _, mixed 9 _ _ _ _, mixed 10 _ _ _ _, mixed 11 _ _ _ _, mixed 12 _ _ _ _,
    plain 13 _ _ _, mixed 14 _ _ _ _, mixed 15 _ _ _ _, nofun⟩

/-- The word fed back in a warm-up round has 31 bits (41_lfsr_fsm.md R119). -/
theorem ushiftRight_one_lt (w : Word) : (w >>> 1).toNat < 2 ^ 31 := by
  have := w.isLt
  simp only [BitVec.toNat_ushiftRight, Nat.shiftRight_eq_div_pow]
  omega

/-- A state of an LF engine as set-up leaves it but for the FSM registers: cells in range, nothing counted, an empty buffer
(41_lfsr_fsm.md R119). -/
structure LfState.AtStart (st : LfState) : Prop where
  iter_zero : st.iter = 0
  buf_empty : st.buf = emptyBuffer 4
  cell_range : ∀ i : Fin 16, 0 < st.s[i].toNat ∧ st.s[i].toNat < 2 ^ 31

theorem lfWarmUp_atStart (rom : Rom) {st : LfState} (h : st.AtStart) : (lfWarmUp rom st).AtStart where
  iter_zero := h.iter_zero
  buf_empty := h.buf_empty
  cell_range := lfShift_inRange h.cell_range (add31_lt (lfFeedback_lt (h.cell_range 0).2) (ushiftRight_one_lt _))

theorem lfDiscard_atStart (rom : Rom) {st : LfState} (h : st.AtStart) : (lfDiscard rom st).AtStart where
  iter_zero := h.iter_zero
  buf_empty := h.buf_empty
  cell_range := lfShift_inRange h.cell_range (lfFeedback_lt (h.cell_range 0).2)

theorem lfWarmUp_iterate_atStart (rom : Rom) (n : Nat) {st : LfState} (h : st.AtStart) :
    ((lfWarmUp rom)^[n] st).AtStart := by
  induction n generalizing st with
  | zero => exact h
  | succ n ih => exact ih (lfWarmUp_atStart rom h)

/-- Set-up from loaded cells in range (41_lfsr_fsm.md R119). -/
theorem lfSetup_atStart (rom : Rom) {s : Vector Word 16} (h : ∀ i : Fin 16, 0 < s[i].toNat ∧ s[i].toNat < 2 ^ 31) :
    (lfSetup rom s).AtStart :=
  lfDiscard_atStart rom (lfWarmUp_iterate_atStart rom 32 ⟨rfl, rfl, h⟩)

/-- A state at its start is within every word limit. -/
theorem LfState.AtStart.wf {st : LfState} (h : st.AtStart) (max : Nat) : st.Wf max where
  iter_le := h.iter_zero ▸ Nat.zero_le max
  buf_wf := by rw [h.buf_empty]; exact ⟨rfl, Nat.le_refl 4⟩
  cell_range := h.cell_range

/-- One more keystream byte taken from a buffer that is not used up. -/
theorem KeystreamBuffer.Wf.advance {n : Nat} {b : KeystreamBuffer} (h : b.Wf n) (hidx : b.idx ≠ n) : b.advance.Wf n :=
  ⟨h.ks_length, Nat.lt_of_le_of_ne h.idx_le hidx⟩

/-- A freshly filled buffer. -/
theorem KeystreamBuffer.Wf.of_filled {n : Nat} {ks : List Byte} (h : ks.length = n) :
    KeystreamBuffer.Wf n { ks := ks, idx := 0 } := ⟨h, Nat.zero_le n⟩

/-- A keystream word within the limit keeps the ranges (41_lfsr_fsm.md R120). -/
theorem lfWord_wf (rom : Rom) {max : Nat} {st : LfState} (h : st.Wf max) (hlimit : st.iter < max) :
    (lfWord rom st).Wf max where
  iter_le := hlimit
  buf_wf := .of_filled rfl
  cell_range := lfShift_inRange h.cell_range (lfFeedback_lt (h.cell_range 0).2)

/-- The refill of an LF engine: the buffer had bytes left, or a word within the limit was generated (40_contract.md R90,
R92). -/
theorem lfRefill_cases {rom : Rom} {max : Nat} {st t : LfState} (h : lfRefill rom max st = some t) :
    (st.buf.idx ≠ 4 ∧ t = st) ∨ (st.buf.idx = 4 ∧ st.iter < max ∧ t = lfWord rom st) := by
  unfold lfRefill at h
  split at h
  · rename_i hidx
    unfold lfGenerate at h
    split at h
    · cases h
    · rename_i hmax
      exact .inr ⟨hidx, Nat.lt_of_not_le hmax, (Option.some.inj h).symm⟩
  · rename_i hidx
    exact .inl ⟨hidx, (Option.some.inj h).symm⟩

/-- A byte taken from an LF engine keeps the ranges. -/
theorem lfRefill_advance_wf {rom : Rom} {max : Nat} {st t : LfState} (hwf : st.Wf max) (h : lfRefill rom max st = some t) :
    LfState.Wf max { t with buf := t.buf.advance } := by
  rcases lfRefill_cases h with ⟨hidx, rfl⟩ | ⟨-, hlimit, rfl⟩
  · exact ⟨hwf.iter_le, KeystreamBuffer.Wf.advance hwf.buf_wf hidx, hwf.cell_range⟩
  · have hword := lfWord_wf rom hwf hlimit
    exact ⟨hword.iter_le, KeystreamBuffer.Wf.advance hword.buf_wf (by decide : (0 : Nat) ≠ 4), hword.cell_range⟩

end Sys2Proof.Machine
end

section
/-!
SUPPORT. The sizes of 10_state.md R26 to R28 on CTR, SRP and BLK: buffers of 16 and 80 bytes, 100 subkey words, one subkey
more than rounds.
-/

namespace Sys2Proof.Machine

/-- A byte taken from CTR keeps the size of its buffer (42_counter.md R132). -/
theorem ctrRefill_advance_wf (rom : Rom) {st : CtrState} (h : st.buf.Wf 16) : (ctrRefill rom st).buf.advance.Wf 16 := by
  by_cases hidx : st.buf.idx = 16
  · rw [ctrRefill, if_pos hidx]
    exact KeystreamBuffer.Wf.advance (.of_filled rfl) (by decide : (0 : Nat) ≠ 16)
  · rw [ctrRefill, if_neg hidx]
    exact KeystreamBuffer.Wf.advance h hidx

/-- Generation does not touch `master` (10_state.md R29). -/
@[simp] theorem ctrRefill_master (rom : Rom) (st : CtrState) : (ctrRefill rom st).master = st.master := by
  unfold ctrRefill
  split <;> rfl

/-- A group gives sixteen bytes (43_serpent_derived.md R146). -/
theorem srpGroups_length (rom : Rom) (n : Nat) (lfsr : Vector Word 10) (r1 r2 : Word) :
    (srpGroups rom n lfsr r1 r2).2.length = 16 * n := by
  induction n generalizing lfsr r1 r2 with
  | zero => rfl
  | succ n ih =>
    simp only [srpGroups, List.length_append, ih]
    have : (srpGroup rom lfsr r1 r2).2.length = 16 := rfl
    omega

/-- A byte taken from SRP keeps the size of its buffer (43_serpent_derived.md R146). -/
theorem srpRefill_advance_wf (rom : Rom) {st : SrpState} (h : st.buf.Wf 80) : (srpRefill rom st).buf.advance.Wf 80 := by
  by_cases hidx : st.buf.idx = 80
  · rw [srpRefill, if_pos hidx]
    exact KeystreamBuffer.Wf.advance (.of_filled (srpGroups_length rom 5 _ _ _)) (by decide : (0 : Nat) ≠ 80)
  · rw [srpRefill, if_neg hidx]
    exact KeystreamBuffer.Wf.advance h hidx

/-- Generation does not touch the subkeys (10_state.md R29). -/
@[simp] theorem srpRefill_sk (rom : Rom) (st : SrpState) : (srpRefill rom st).sk = st.sk := by
  unfold srpRefill
  split <;> rfl

/-- 25 groups of four subkey words (43_serpent_derived.md R142). -/
@[simp] theorem srpKeySchedule_length (rom : Rom) (key : List Byte) : (srpKeySchedule rom key).length = 100 := by
  simp [srpKeySchedule, List.length_flatMap]

@[simp] theorem blkSubkeys_length (rom : Rom) (m r : Nat) (kappa : List Word) : (blkSubkeys rom m r kappa).length = m := by
  induction m generalizing r kappa with
  | zero => rfl
  | succ m ih => simp [blkSubkeys, ih]

@[simp] theorem blkInvKeys_length (rom : Rom) (ke : List (Vector Word 4)) (rounds : Nat) :
    (blkInvKeys rom ke rounds).length = rounds + 1 := by
  simp [blkInvKeys]

/-- A key of 16, 24 or 32 bytes gives a BLK CipherState with the sizes of 10_state.md R28. -/
theorem blkInit_wf (rom : Rom) {key : List Byte} (dir : Bool) (h : key.length = 16 ∨ key.length = 24 ∨ key.length = 32) :
    (blkInit rom key dir).Wf where
  n_ok := by simp only [blkInit]; omega
  r_eq := rfl
  ke_length := blkSubkeys_length _ _ _ _
  kd_length := blkInvKeys_length _ _ _

/-- The block transform gives sixteen bytes (45_block_cipher.md R159). -/
@[simp] theorem blkCrypt_length (rom : Rom) (st : BlkState) (blk : List Byte) : (blkCrypt rom st blk).length = 16 := rfl

/-- PROCESS on BLK writes as many bytes as it reads (40_contract.md R91). -/
theorem blkOutput_length (s : State) (st : BlkState) (h : s.len % 16 = 0) : (blkOutput s st).length = s.len := by
  simp only [blkOutput, List.length_flatMap, blkCrypt_length, List.map_const', List.length_range, List.sum_replicate,
    smul_eq_mul]
  omega

/-- PROCESS on a stream engine writes as many bytes as it reads (40_contract.md R89). -/
theorem xorBytes_length {s : State} {st st' : StreamState} {ks : List Byte} (h : takeBytes s.cfg s.len st = some (ks, st')) :
    (xorBytes s.inputBytes ks).length = s.len := by
  simp [xorBytes, State.inputBytes, takeBytes_length h]

end Sys2Proof.Machine
end

section
/-!
SUPPORT. What taking keystream bytes and what INIT do to a CipherState with its reset image (`InstanceWf`, 10_state.md R25
to R33).
-/

namespace Sys2Proof.Machine

/-- A keystream byte keeps the ranges, the engine and the KeySchedule (10_state.md R25 to R29). -/
theorem nextByte_keeps {cfg : Config} {st st' : StreamState} {b : Byte} (h : nextByte cfg st = some (b, st')) :
    (CipherState.Wf cfg (.stream st) → CipherState.Wf cfg (.stream st')) ∧ st'.engine = st.engine ∧
      (CipherState.stream st').keySchedule = (CipherState.stream st).keySchedule := by
  cases st with
  | lf128 st =>
    obtain ⟨t, ht, he⟩ := Option.map_eq_some_iff.mp h
    cases he
    exact ⟨fun hwf => lfRefill_advance_wf hwf ht, rfl, rfl⟩
  | lf256 st =>
    obtain ⟨t, ht, he⟩ := Option.map_eq_some_iff.mp h
    cases he
    exact ⟨fun hwf => lfRefill_advance_wf hwf ht, rfl, rfl⟩
  | ctr st =>
    cases h
    exact ⟨ctrRefill_advance_wf cfg.rom, rfl, congrArg KeySchedule.ctr (ctrRefill_master cfg.rom st)⟩
  | srp st =>
    cases h
    refine ⟨fun hwf => ⟨?_, srpRefill_advance_wf cfg.rom hwf.buf_wf⟩, rfl,
      congrArg KeySchedule.srp (srpRefill_sk cfg.rom st)⟩
    exact (congrArg List.length (srpRefill_sk cfg.rom st)).trans hwf.sk_length

/-- Any number of keystream bytes keeps the ranges, the engine and the KeySchedule. -/
theorem takeBytes_keeps {cfg : Config} {n : Nat} {st st' : StreamState} {ks : List Byte}
    (h : takeBytes cfg n st = some (ks, st')) :
    (CipherState.Wf cfg (.stream st) → CipherState.Wf cfg (.stream st')) ∧ st'.engine = st.engine ∧
      (CipherState.stream st').keySchedule = (CipherState.stream st).keySchedule := by
  induction n generalizing st ks with
  | zero => cases h; exact ⟨id, rfl, rfl⟩
  | succ n ih =>
    obtain ⟨b, st₁, bs, hb, hrest, -⟩ := takeBytes_succ_cases h
    obtain ⟨hwf, heng, hkeys⟩ := nextByte_keeps hb
    obtain ⟨hwf', heng', hkeys'⟩ := ih hrest
    exact ⟨hwf' ∘ hwf, heng'.trans heng, hkeys'.trans hkeys⟩

/-- A stream engine is not BLK. -/
theorem StreamState.engine_ne_blk (st : StreamState) : st.engine ≠ .blk := by
  cases st <;> nofun

/-- A stream CipherState that has moved on still belongs to its reset image (10_state.md R29, R33). -/
theorem InstanceWf.of_stream {cfg : Config} {st st' : StreamState} {rst : CipherState}
    (h : InstanceWf cfg (.stream st) rst) (hwf : CipherState.Wf cfg (.stream st')) (heng : st'.engine = st.engine)
    (hkeys : (CipherState.stream st').keySchedule = (CipherState.stream st).keySchedule) :
    InstanceWf cfg (.stream st') rst where
  cur_wf := hwf
  rst_wf := h.rst_wf
  rst_fresh := h.rst_fresh
  same_engine := heng.trans h.same_engine
  same_keys := hkeys.trans h.same_keys
  blk_at_image := fun hblk => absurd hblk st'.engine_ne_blk

theorem InstanceWf.nextByte {cfg : Config} {st st' : StreamState} {rst : CipherState} {b : Byte}
    (h : InstanceWf cfg (.stream st) rst) (hb : nextByte cfg st = some (b, st')) : InstanceWf cfg (.stream st') rst :=
  have ⟨hwf, heng, hkeys⟩ := nextByte_keeps hb
  h.of_stream (hwf h.cur_wf) heng hkeys

theorem InstanceWf.takeBytes {cfg : Config} {n : Nat} {st st' : StreamState} {rst : CipherState} {ks : List Byte}
    (h : InstanceWf cfg (.stream st) rst) (ht : takeBytes cfg n st = some (ks, st')) :
    InstanceWf cfg (.stream st') rst :=
  have ⟨hwf, heng, hkeys⟩ := takeBytes_keeps ht
  h.of_stream (hwf h.cur_wf) heng hkeys

/-- A CipherState equal to its reset image, as after INIT and RESET (10_state.md R33, 40_contract.md R94). -/
theorem InstanceWf.refl {cfg : Config} {st : CipherState} (hwf : st.Wf cfg) (hfresh : st.Fresh) : InstanceWf cfg st st :=
  ⟨hwf, hwf, hfresh, rfl, rfl, fun _ => rfl⟩

/-- The configuration check accepts the three key lengths of BLK only (40_contract.md R85). -/
theorem klen_of_configCheck_blk {a : InitOperands} (h : configCheck .blk a = none) :
    a.klen.toNat = 16 ∨ a.klen.toNat = 24 ∨ a.klen.toNat = 32 := by
  by_cases hk : keyLengthOk .blk a.klen.toNat = true
  · simpa [keyLengthOk, or_assoc] using hk
  · simp only [configCheck, hk] at h
    split at h <;> simp at h

/-- What INIT of an engine installs: the engine named, an empty buffer and no word counted, the sizes and ranges of 10_state.md
R25 to R28 (10_state.md R31, R32). -/
theorem setupOf_spec {s : State} (hrom : LfConstantsNonzero s.cfg.rom) {eng : Engine} {a : InitOperands}
    (hcheck : configCheck eng a = none) :
    (setupOf eng a s).engine = eng ∧ (setupOf eng a s).Fresh ∧ (setupOf eng a s).Wf s.cfg := by
  cases eng with
  | lf128 =>
    have h := lfSetup_atStart s.cfg.rom (lfLoad128_inRange hrom (s.keyBytes a) (s.ivBytes a))
    exact ⟨rfl, ⟨h.buf_empty, h.iter_zero⟩, h.wf _⟩
  | lf256 =>
    have h := lfSetup_atStart s.cfg.rom (lfLoad256_inRange hrom (s.keyBytes a) (s.ivBytes a))
    exact ⟨rfl, ⟨h.buf_empty, h.iter_zero⟩, h.wf _⟩
  | ctr => exact ⟨rfl, rfl, ⟨rfl, Nat.le_refl 16⟩⟩
  | srp => exact ⟨rfl, rfl, ⟨srpKeySchedule_length _ _, ⟨List.length_replicate, Nat.le_refl 80⟩⟩⟩
  | blk =>
    refine ⟨rfl, trivial, blkInit_wf _ _ ?_⟩
    simpa only [State.keyBytes, readBytes_length] using klen_of_configCheck_blk hcheck

theorem setupOf_instanceWf {s : State} (hrom : LfConstantsNonzero s.cfg.rom) {eng : Engine} {a : InitOperands}
    (hcheck : configCheck eng a = none) : InstanceWf s.cfg (setupOf eng a s) (setupOf eng a s) :=
  have ⟨_, hfresh, hwf⟩ := setupOf_spec hrom hcheck
  .refl hwf hfresh

end Sys2Proof.Machine
end

section
/-!
SUPPORT. The invariant `State.Inv` through each operation a command or an access is made of.
-/

namespace Sys2Proof.Machine

/-- The invariant looks at the configuration, the contexts, the slots, the memories and STATUS only. -/
theorem State.Inv.congr {s t : State} (h : s.Inv) (hcfg : t.cfg = s.cfg) (hctx : t.ctx = s.ctx) (hslot : t.slot = s.slot)
    (hmem : ∀ buf, t.mem buf = s.mem buf) (hstatus : t.status = s.status) : t.Inv where
  cfg_inRange := hcfg ▸ h.cfg_inRange
  loading_nonzero := hcfg ▸ h.loading_nonzero
  ctx_length := by rw [hcfg, hctx, h.ctx_length]
  slot_length := by rw [hcfg, hslot, h.slot_length]
  ctx_wf := by rw [hcfg, hctx]; exact h.ctx_wf
  slot_wf := by rw [hcfg, hslot]; exact h.slot_wf
  mem_wf := fun buf => hmem buf ▸ h.mem_wf buf
  mem_bound := fun buf => by rw [hcfg, hmem]; exact h.mem_bound buf
  status_reserved := hstatus ▸ h.status_reserved
  status_legal := hstatus ▸ h.status_legal

/-- A context of a state with the invariant is well formed, one beyond the list being EMPTY. -/
theorem State.Inv.context_wf {s : State} (h : s.Inv) (c : BitVec 4) : (s.context c).Wf s.cfg := by
  by_cases hc : c.toNat < s.ctx.length
  · rw [State.context, List.getD_eq_getElem _ _ hc]
    exact h.ctx_wf _ (List.getElem_mem hc)
  · rw [State.context, List.getD_eq_default _ _ (Nat.le_of_not_lt hc)]
    trivial

theorem State.Inv.instance_of_ready {s : State} (h : s.Inv) {c : BitVec 4} {cur rst : CipherState}
    (hx : s.context c = .ready cur rst) : InstanceWf s.cfg cur rst := by
  have hwf := h.context_wf c
  rwa [hx] at hwf

/-- A used slot of a state with the invariant holds a well-formed CipherState and reset image. -/
theorem State.Inv.instance_of_used {s : State} (h : s.Inv) {k : BitVec 4} {snap : Snapshot}
    (hx : s.snapshotAt k = some snap) : InstanceWf s.cfg snap.cur snap.rst := by
  by_cases hk : k.toNat < s.slot.length
  · rw [State.snapshotAt, List.getD_eq_getElem _ _ hk] at hx
    exact h.slot_wf snap (hx ▸ List.getElem_mem hk)
  · rw [State.snapshotAt, List.getD_eq_default _ _ (Nat.le_of_not_lt hk)] at hx
    cases hx

theorem State.Inv.setContext {s : State} (h : s.Inv) (c : BitVec 4) {x : Context} (hx : x.Wf s.cfg) :
    (s.setContext c x).Inv where
  cfg_inRange := h.cfg_inRange
  loading_nonzero := h.loading_nonzero
  ctx_length := by rw [setContext_ctx, List.length_set]; exact h.ctx_length
  slot_length := h.slot_length
  ctx_wf := fun y hy => by
    rcases List.mem_or_eq_of_mem_set hy with hy | rfl
    · exact h.ctx_wf y hy
    · exact hx
  slot_wf := h.slot_wf
  mem_wf := fun buf => by rw [setContext_mem]; exact h.mem_wf buf
  mem_bound := fun buf => by rw [setContext_mem]; exact h.mem_bound buf
  status_reserved := h.status_reserved
  status_legal := h.status_legal

theorem State.Inv.setSnapshot {s : State} (h : s.Inv) (k : BitVec 4) {snap : Snapshot}
    (hsnap : InstanceWf s.cfg snap.cur snap.rst) : (s.setSnapshot k (some snap)).Inv where
  cfg_inRange := h.cfg_inRange
  loading_nonzero := h.loading_nonzero
  ctx_length := h.ctx_length
  slot_length := by rw [setSnapshot_slot, List.length_set]; exact h.slot_length
  ctx_wf := h.ctx_wf
  slot_wf := fun x hx => by
    rcases List.mem_or_eq_of_mem_set hx with hx | hx
    · exact h.slot_wf x hx
    · cases hx; exact hsnap
  mem_wf := fun buf => by rw [setSnapshot_mem]; exact h.mem_wf buf
  mem_bound := fun buf => by rw [setSnapshot_mem]; exact h.mem_bound buf
  status_reserved := h.status_reserved
  status_legal := h.status_legal

/-- Bytes written within a memory (20_memory.md R53, R54). -/
theorem State.Inv.writeBytes {s : State} (h : s.Inv) (buf : Buffer) {base : Nat} {bs : List Byte}
    (hfit : base + bs.length ≤ s.cfg.size buf) : (s.writeBytes buf base bs).Inv where
  cfg_inRange := by rw [writeBytes_cfg]; exact h.cfg_inRange
  loading_nonzero := by rw [writeBytes_cfg]; exact h.loading_nonzero
  ctx_length := by rw [writeBytes_ctx, writeBytes_cfg]; exact h.ctx_length
  slot_length := by rw [writeBytes_slot, writeBytes_cfg]; exact h.slot_length
  ctx_wf := by rw [writeBytes_ctx, writeBytes_cfg]; exact h.ctx_wf
  slot_wf := by rw [writeBytes_slot, writeBytes_cfg]; exact h.slot_wf
  mem_wf := fun buf' => by
    by_cases hb : buf' = buf
    · subst hb; rw [writeBytes_mem_same]; exact write_wf (h.mem_wf buf') base bs
    · rw [writeBytes_mem_other s hb]; exact h.mem_wf buf'
  mem_bound := fun buf' cell hcell => by
    rw [writeBytes_cfg]
    by_cases hb : buf' = buf
    · subst hb
      rw [writeBytes_mem_same] at hcell
      rcases mem_write hcell with hcell | ⟨-, hlt⟩
      · exact h.mem_bound buf' cell hcell
      · exact Nat.lt_of_lt_of_le hlt hfit
    · rw [writeBytes_mem_other s hb] at hcell
      exact h.mem_bound buf' cell hcell
  status_reserved := by rw [writeBytes_status]; exact h.status_reserved
  status_legal := by rw [writeBytes_status]; exact h.status_legal

theorem State.Inv.leaveResidue {s : State} (h : s.Inv) (hfit : s.outOff + s.len ≤ s.cfg.obufSize) : s.leaveResidue.Inv :=
  (h.writeBytes .obuf (base := s.outOff)
    (bs := (List.range s.len).map fun i => Config.residueByte s.freeCount (s.outOff + i))
    (by rw [List.length_map, List.length_range]; exact hfit)).congr
    rfl rfl rfl (fun buf => by cases buf <;> rfl) rfl

/-- STATUS as a command writes it (10_state.md R40, 60_exceptions.md R181). -/
theorem State.Inv.report {s : State} (h : s.Inv) (cw result : Word) {cls : BitVec 2} {code : BitVec 4}
    (hlegal : LegalOutcome cls code) : (s.report (statusWord cw cls code) result).Inv where
  cfg_inRange := h.cfg_inRange
  loading_nonzero := h.loading_nonzero
  ctx_length := h.ctx_length
  slot_length := h.slot_length
  ctx_wf := h.ctx_wf
  slot_wf := h.slot_wf
  mem_wf := fun buf => by rw [report_mem]; exact h.mem_wf buf
  mem_bound := fun buf => by rw [report_mem]; exact h.mem_bound buf
  status_reserved := statusWord_reserved cw cls code
  status_legal := by simpa only [report_status, statusClass_statusWord, statusCode_statusWord] using hlegal

theorem State.Inv.latch {s : State} (h : s.Inv) (cw : Word) : (s.latch cw).Inv :=
  h.congr rfl rfl rfl (latch_mem s cw) rfl

theorem State.Inv.done {s : State} (h : s.Inv) (i : Instr) (result : Word) : (s.done i result).Inv :=
  (h.latch (encode i)).report (encode i) result legalOutcome_ok

theorem State.Inv.refusedWith {s : State} (h : s.Inv) (i : Instr) (e : UsageError) : (s.refusedWith i e).Inv :=
  (h.latch (encode i)).report (encode i) 0 (legalOutcome_error (.usage e))

theorem State.Inv.killedWith {s : State} (h : s.Inv) (i : Instr) (c : BitVec 4) (e : TerminalError) :
    (s.killedWith i c e).Inv :=
  ((h.latch (encode i)).setContext c (x := .dead e) trivial).report (encode i) 0 (legalOutcome_error (.terminal e))

/-- Every command keeps the invariant. -/
theorem CommandEffect.inv {s t : State} {i : Instr} (he : CommandEffect s i t) (h : s.Inv) : t.Inv := by
  cases he with
  | refused _ e => exact h.refusedWith _ e
  | initKilled eng c a e => exact h.killedWith _ c _
  | initDone eng c a check =>
    exact (h.setContext c (x := .ready (setupOf eng a s) (setupOf eng a s))
      (setupOf_instanceWf h.loading_nonzero check)).done _ _
  | processBlk c st rst ready fit blocks =>
    exact (h.writeBytes .obuf (blkOutput_length s st blocks ▸ ((rangesFit_iff s).mp fit).2)).done _ _
  | processLimit c fit => exact (h.leaveResidue ((rangesFit_iff s).mp fit).2).killedWith _ c _
  | processStream c st st' rst ks ready fit taken =>
    have hwrite := h.writeBytes .obuf (base := s.outOff) (bs := xorBytes s.inputBytes ks)
      (xorBytes_length taken ▸ ((rangesFit_iff s).mp fit).2)
    exact (hwrite.setContext c (x := .ready (.stream st') rst) ((h.instance_of_ready ready).takeBytes taken)).done _ _
  | retbyteLimit c b => exact h.killedWith _ c _
  | retbyteDone c b kb st st' rst ready taken =>
    exact (h.setContext c (x := .ready (.stream st') rst) ((h.instance_of_ready ready).nextByte taken)).done _ _
  | resetDone c cur rst ready =>
    have hinst := h.instance_of_ready ready
    exact (h.setContext c (x := .ready rst rst) (.refl hinst.rst_wf hinst.rst_fresh)).done _ _
  | snapshotDone c k cur rst ready => exact (h.setSnapshot k (h.instance_of_ready ready)).done _ _
  | restoreDone c k snap used =>
    exact (h.setContext c (x := .ready snap.cur snap.rst) (h.instance_of_used used)).done _ _
  | dropDone c => exact (h.setContext c (x := .empty) trivial).done _ _

/-- What a write of a word to `CMD` does: a command's effect, or the one error of an illegal word (30_encoding.md R79). -/
theorem runCommand_cases {cw : Word} {s t : State} (h : runCommand cw s = .next t) :
    (∃ i, decode cw = .ok i ∧ CommandEffect s i t) ∨
    ((∃ e, decode cw = .error e) ∧ t = (s.latch cw).report (errorStatus cw (.usage .illegalCmd)) 0) := by
  unfold runCommand at h
  split at h
  · rename_i i hi
    exact .inl ⟨i, hi, commandEffect_of_exec h⟩
  · rename_i e he
    exact .inr ⟨⟨e, he⟩, (Host.Outcome.next.inj h).symm⟩

theorem runCommand_inv {cw : Word} {s t : State} (h : s.Inv) (hrun : runCommand cw s = .next t) : t.Inv := by
  rcases runCommand_cases hrun with ⟨i, -, he⟩ | ⟨-, rfl⟩
  · exact he.inv h
  · exact (h.latch cw).report cw 0 (legalOutcome_error (.usage .illegalCmd))

/-- An access that reaches something is one of the region (20_memory.md R55). -/
theorem targetAt_of_locate {cfg : Config} {addr size : Nat} {x : Target} (h : locate cfg addr size = .at x) :
    targetAt cfg (addr - cfg.coreBase) size = .ok x := by
  unfold locate at h
  split at h; · cases h
  split at h; · cases h
  split at h; · cases h
  split at h
  · rename_i y hy
    cases h
    exact hy
  · cases h

/-- A window holds no offset below its base (20_memory.md R58). -/
theorem windowBase_le_of_bufferAt {cfg : Config} {off : Nat} {buf : Buffer} (h : bufferAt cfg off = some buf) :
    windowBase buf ≤ off := by
  unfold bufferAt at h
  split at h; · rename_i hin; cases h; exact hin.1
  split at h; · rename_i hin; cases h; exact hin.1
  split at h; · rename_i hin; cases h; exact hin.1
  split at h; · rename_i hin; cases h; exact hin.1
  cases h

/-- An access that reaches a window lies inside it (20_memory.md R58, R59). -/
theorem locate_window_fits {cfg : Config} {addr size i : Nat} {buf : Buffer}
    (h : locate cfg addr size = .at (.window buf i)) : i + size ≤ cfg.size buf := by
  have ht := targetAt_of_locate h
  unfold targetAt at ht
  split at ht
  · rename_i b hb
    split at ht
    · rename_i hfit
      cases ht
      have hbase := windowBase_le_of_bufferAt hb
      omega
    · cases ht
  · split at ht
    · split at ht <;> cases ht
    · cases ht

/-- The things a served access can do (20_memory.md R51, R61): return a value, run a command, or write what it reaches. -/
theorem serve_cases {a : HostAccess} {s t : State} (h : serve a s = .next t) :
    (∃ w, t = { s with busData := w }) ∨
    (∃ v, a = .write s.cfg.coreBase 4 v ∧ runCommand v s = .next t) ∨
    (∃ addr size v x, locate s.cfg addr size = .at x ∧ t = s.writeTarget x size v) := by
  cases a with
  | read addr size =>
    simp only [serve] at h
    split at h
    · exact .inl ⟨_, (Host.Outcome.next.inj h).symm⟩
    · cases h
    · cases h
  | write addr size v =>
    simp only [serve] at h
    split at h
    · rename_i hcmd
      obtain ⟨rfl, rfl⟩ := locate_cmd_only hcmd
      exact .inr (.inl ⟨v, rfl, h⟩)
    · rename_i x _ hx
      exact .inr (.inr ⟨addr, size, v, x, hx, (Host.Outcome.next.inj h).symm⟩)
    · cases h
    · cases h

/-- A host write other than one to `CMD` writes an argument register, bytes of a window, or nothing (20_memory.md R51). -/
theorem writeTarget_cases (s : State) (x : Target) (size : Nat) (v : Word) :
    (∃ a b d, s.writeTarget x size v = s.withArgs a b d) ∨
    (∃ buf i, x = .window buf i ∧ s.writeTarget x size v = s.writeBytes buf i (splitLe v size)) := by
  cases x with
  | reg r =>
    refine .inl ?_
    cases r with
    | arg0 => exact ⟨v, s.arg1, s.arg2, rfl⟩
    | arg1 => exact ⟨s.arg0, v, s.arg2, rfl⟩
    | arg2 => exact ⟨s.arg0, s.arg1, v, rfl⟩
    | cmd | status | result | ctxstat => exact ⟨s.arg0, s.arg1, s.arg2, rfl⟩
  | window buf i =>
    cases buf with
    | obuf => exact .inl ⟨s.arg0, s.arg1, s.arg2, rfl⟩
    | keybuf | ivbuf | ibuf => exact .inr ⟨_, i, rfl, rfl⟩
  | reserved => exact .inl ⟨s.arg0, s.arg1, s.arg2, rfl⟩

/-- Every served access keeps the invariant. -/
theorem serve_inv {a : HostAccess} {s t : State} (h : s.Inv) (hserve : serve a s = .next t) : t.Inv := by
  rcases serve_cases hserve with ⟨w, rfl⟩ | ⟨v, -, hrun⟩ | ⟨addr, size, v, x, hx, rfl⟩
  · exact h.congr rfl rfl rfl (fun buf => by cases buf <;> rfl) rfl
  · exact runCommand_inv h hrun
  · rcases writeTarget_cases s x size v with ⟨a, b, d, heq⟩ | ⟨buf, i, rfl, heq⟩ <;> rw [heq]
    · exact h.congr rfl rfl rfl (withArgs_mem s a b d) rfl
    · exact h.writeBytes buf (by simpa only [splitLe_length] using locate_window_fits hx)

/-- A step: nothing pending and nothing done, or the oldest access served (log 4). -/
theorem step_cases {s t : State} (h : step s = .next t) :
    (s.pending = [] ∧ t = s) ∨
    ∃ a rest, s.pending = a :: rest ∧ serve a { s with pending := rest } = .next t := by
  unfold step at h
  split at h
  · rename_i hnil
    exact .inl ⟨hnil, (Host.Outcome.next.inj h).symm⟩
  · rename_i a rest hcons
    exact .inr ⟨a, rest, hcons, h⟩

end Sys2Proof.Machine
end

section
/-!
SUPPORT. The invariant: it holds after reset, every step keeps it, what INIT installs satisfies it (10_state.md R25 to R33).
-/

namespace Sys2Proof.Machine

/-- Settles O54: a step takes the oldest access off the queue, of which the invariant says nothing, and serves it. -/
theorem stepKeepsInvariant : Obligations.StepKeepsInvariant := by
  unfold Obligations.StepKeepsInvariant
  intro s t h hstep
  rcases step_cases hstep with ⟨-, rfl⟩ | ⟨a, rest, -, hserve⟩
  · exact h
  · exact serve_inv (h.congr (t := { s with pending := rest }) rfl rfl rfl (fun buf => by cases buf <;> rfl) rfl) hserve

/-- Settles O28: of the four outcomes of INIT only the success has class 0. -/
theorem initLeavesFreshInstance : Obligations.InitLeavesFreshInstance := by
  unfold Obligations.InitLeavesFreshInstance
  intro eng c a s t hinv hexec hclass
  rcases execInit_cases s eng c a with ⟨-, h⟩ | ⟨-, -, h⟩ | ⟨-, -, e, -, h⟩ | ⟨hc, -, hcheck, h⟩ <;>
    obtain rfl := Host.Outcome.next.inj (h.symm.trans hexec)
  · rw [statusClass_refusedWith] at hclass; cases hclass
  · rw [statusClass_refusedWith] at hclass; cases hclass
  · rw [statusClass_killedWith] at hclass; cases hclass
  · obtain ⟨heng, hfresh, hwf⟩ := setupOf_spec hinv.loading_nonzero hcheck
    have hlen : c.toNat < s.ctx.length := hinv.ctx_length ▸ hc
    exact ⟨setupOf eng a s, by rw [done_context, context_setContext_same s hlen], heng, hfresh, hwf⟩

/-- The loading constants of the reference tables are non-zero (41_lfsr_fsm.md R111, R112). -/
theorem refRom_lfConstantsNonzero : LfConstantsNonzero refRom := by
  unfold LfConstantsNonzero
  decide +kernel

/-- The reference parameters are in range (00_scope.md R13). -/
theorem refConfig_inRange : refConfig.InRange := by
  constructor <;> decide

/-- Settles O53: every context EMPTY, every slot NONE, nothing written, STATUS 0. -/
theorem resetSatisfiesInvariant : Obligations.ResetSatisfiesInvariant where
  cfg_inRange := refConfig_inRange
  loading_nonzero := refRom_lfConstantsNonzero
  ctx_length := List.length_replicate
  slot_length := List.length_replicate
  ctx_wf := fun x hx => by rw [List.eq_of_mem_replicate hx]; trivial
  slot_wf := fun snap hx => nomatch List.eq_of_mem_replicate hx
  mem_wf := reset_mem_wf
  mem_bound := fun buf cell hcell => by cases buf <;> cases hcell
  status_reserved := ⟨rfl, rfl⟩
  status_legal := legalOutcome_ok

end Sys2Proof.Machine
end

section
/-!
SUPPORT. What a command leaves alone, its RESULT and its registers, from the list of its effects (10_state.md R29, R33, R34,
R39, R41, R45).
-/

namespace Sys2Proof.Machine

/-- The command names the context and the slot it writes: everything else of contexts and slots stays (10_state.md R34,
60_exceptions.md R192). -/
theorem CommandEffect.context_ne {s t : State} {i : Instr} (he : CommandEffect s i t) {d : BitVec 4} (hd : d ≠ i.ctxOf) :
    t.context d = s.context d := by
  cases he with
  | refused | processBlk | snapshotDone => simp
  | initKilled eng c a e | initDone eng c a check =>
    rw [ctxOf_initOf] at hd
    simp [context_setContext_ne _ hd]
  | processLimit | processStream | retbyteLimit | retbyteDone | resetDone | restoreDone | dropDone =>
    simp only [Instr.ctxOf] at hd
    simp [context_setContext_ne _ hd]

/-- The fields no command writes (10_state.md R39; logs 4, 5, 6). -/
theorem CommandEffect.fields_eq {s t : State} {i : Instr} (he : CommandEffect s i t) :
    t.cfg = s.cfg ∧ t.arg0 = s.arg0 ∧ t.arg1 = s.arg1 ∧ t.arg2 = s.arg2 ∧ t.pending = s.pending ∧
      t.busData = s.busData := by
  cases he <;> simp

/-- No command writes `KEYBUF`, `IVBUF` or `IBUF` (10_state.md R45). -/
theorem CommandEffect.readByte_input {s t : State} {i : Instr} (he : CommandEffect s i t) {buf : Buffer} (hbuf : buf ≠ .obuf)
    (a : Nat) : t.readByte buf a = s.readByte buf a := by
  cases he with
  | processBlk | processStream => simp [hbuf]
  | processLimit => simp [readByte_leaveResidue_other _ hbuf]
  | refused | initKilled | initDone | retbyteLimit | retbyteDone | resetDone | snapshotDone | restoreDone | dropDone => simp

/-- A command writes `OBUF` in the range of a PROCESS only (20_memory.md R53). -/
theorem CommandEffect.readByte_obuf {s t : State} {i : Instr} (he : CommandEffect s i t) (a : Nat)
    (ha : i.IsProcess → a < s.outOff ∨ s.outOff + s.len ≤ a) : t.readByte .obuf a = s.readByte .obuf a := by
  cases he with
  | processBlk c st rst ready fit blocks =>
    rw [done_readByte, readByte_writeBytes_outside _ _ _ _ _ (blkOutput_length s st blocks ▸ ha ⟨c, rfl⟩)]
  | processStream c st st' rst ks ready fit taken =>
    rw [done_readByte, setContext_readByte, readByte_writeBytes_outside _ _ _ _ _ (xorBytes_length taken ▸ ha ⟨c, rfl⟩)]
  | processLimit c => rw [killedWith_readByte, readByte_leaveResidue_outside _ _ (ha ⟨c, rfl⟩)]
  | refused | initKilled | initDone | retbyteLimit | retbyteDone | resetDone | snapshotDone | restoreDone | dropDone => simp

/-- Only SNAPSHOT writes a slot, the one it names (10_state.md R34). -/
theorem CommandEffect.snapshotAt_eq {s t : State} {i : Instr} (he : CommandEffect s i t) {k : BitVec 4}
    (hi : ∀ c, i ≠ .snapshot c k) : t.snapshotAt k = s.snapshotAt k := by
  cases he with
  | snapshotDone c j =>
    have hkj : k ≠ j := fun hkj => hi c (hkj ▸ rfl)
    rw [done_snapshotAt, snapshotAt_setSnapshot_ne _ hkj]
  | _ => simp

/-- SNAPSHOT changes no context (40_contract.md R96). -/
theorem CommandEffect.context_snapshot {s t : State} {c k : BitVec 4} (he : CommandEffect s (.snapshot c k) t) (d : BitVec 4) :
    t.context d = s.context d := by
  generalize hi : Instr.snapshot c k = i at he
  cases he with
  | refused | snapshotDone => simp
  | initKilled eng | initDone eng => exact absurd hi.symm ((initOf_ne eng _ _).2.2.2 c k)
  | _ => cases hi

/-- Settles O17: each clause is a lemma about the effects of a command. -/
theorem commandFrame : Obligations.CommandFrame := by
  unfold Obligations.CommandFrame
  intro i s t hexec
  have he := commandEffect_of_exec hexec
  obtain ⟨hcfg, harg0, harg1, harg2, hpending, hbus⟩ := he.fields_eq
  refine ⟨hcfg, harg0, harg1, harg2, hpending, hbus, fun buf hbuf a => he.readByte_input hbuf a, fun hi a => ?_,
    fun a ha => he.readByte_obuf a fun _ => ha, fun d hd => he.context_ne hd, ?_, fun k hi => he.snapshotAt_eq hi⟩
  · exact he.readByte_obuf a fun ⟨c, hc⟩ => absurd hc (hi c)
  · rintro c k rfl
    exact he.context_snapshot c

/-- A byte zero-extended to a register (10_state.md R41). -/
theorem setWidth_byte_fields (b : Byte) :
    (b.setWidth 32).extractLsb' 0 8 = b ∧ (b.setWidth 32).extractLsb' 8 24 = 0#24 := by
  constructor <;> apply BitVec.eq_of_getLsbD_eq <;> intro j hj <;>
    simp only [BitVec.getLsbD_extractLsb', BitVec.getLsbD_setWidth]
  · simp [hj, Nat.lt_trans hj (by decide : 8 < 32)]
  · simp

/-- Only PROCESS and RETBYTE have a result (10_state.md R41). -/
theorem CommandEffect.result_zero {s t : State} {i : Instr} (he : CommandEffect s i t) (hp : ∀ c, i ≠ .process c)
    (hr : ∀ c b, i ≠ .retbyte c b) : t.result = 0 := by
  cases he with
  | processBlk c | processStream c => exact absurd rfl (hp c)
  | retbyteDone c b => exact absurd rfl (hr c b)
  | refused | initKilled | initDone | processLimit | retbyteLimit | resetDone | snapshotDone | restoreDone | dropDone => simp

/-- Settles O15: the effects of a command one by one; after an error the class is not 0 and RESULT is. -/
theorem resultRegister : Obligations.ResultRegister := by
  unfold Obligations.ResultRegister
  intro i s t hexec
  have he := commandEffect_of_exec hexec
  refine ⟨?_, ?_, ?_, he.result_zero⟩
  · intro herror
    cases he with
    | refused | initKilled | processLimit | retbyteLimit => simp
    | _ => exact absurd (statusClass_done _ _ _) herror
  · rintro hok c rfl
    generalize hi : Instr.process c = i at he
    cases he with
    | processBlk | processStream => simp
    | refused => simp at hok
    | processLimit => simp [TerminalError.cls] at hok
    | initKilled eng | initDone eng => exact absurd hi.symm ((initOf_ne eng _ _).1 c)
    | _ => cases hi
  · rintro hok c b rfl
    generalize hi : Instr.retbyte c b = i at he
    cases he with
    | retbyteDone c b kb st st' rst ready taken =>
      cases hi
      exact ⟨st, rst, kb, st', ready, taken, setWidth_byte_fields (b ^^^ kb)⟩
    | refused => simp at hok
    | retbyteLimit => simp [TerminalError.cls] at hok
    | initKilled eng | initDone eng => exact absurd hi.symm ((initOf_ne eng _ _).2.1 c b)
    | _ => cases hi

end Sys2Proof.Machine
end

section
/-!
SUPPORT. The reset image and the KeySchedule of a context (10_state.md R29, R33): what a command other than INIT and RESTORE
can make of a context.
-/

namespace Sys2Proof.Machine

/-- A command that is neither an INIT nor a RESTORE on context `c` leaves it as it is, makes it EMPTY or DEAD, or moves its
CipherState on under the same reset image: the KeySchedule is kept, or the CipherState is the reset image (10_state.md R29,
R33, 40_contract.md R94). -/
theorem CommandEffect.context_cases {s t : State} {i : Instr} (he : CommandEffect s i t) (c : BitVec 4)
    (hi : i.ctxOf = c → ¬ i.IsInit ∧ ∀ k, i ≠ .restore c k) :
    t.context c = s.context c ∨ t.context c = .empty ∨ (∃ e, t.context c = .dead e) ∨
    ∃ cur cur' rst, s.context c = .ready cur rst ∧ t.context c = .ready cur' rst ∧
      (cur'.keySchedule = cur.keySchedule ∨ cur' = rst) := by
  by_cases hc : c = i.ctxOf
  · subst hc
    obtain ⟨hinit, hrestore⟩ := hi rfl
    cases he with
    | refused | processBlk | snapshotDone => exact .inl (by simp)
    | initKilled eng d a | initDone eng d a => exact absurd ⟨eng, d, a, rfl⟩ hinit
    | restoreDone d k => exact absurd rfl (hrestore k)
    | processLimit d =>
      rcases context_setContext_cases s.leaveResidue d d (.dead (.exhausted .wordLimit)) with ⟨-, h⟩ | h
      · exact .inr (.inr (.inl ⟨_, h⟩))
      · exact .inl h
    | retbyteLimit d =>
      rcases context_setContext_cases s d d (.dead (.exhausted .wordLimit)) with ⟨-, h⟩ | h
      · exact .inr (.inr (.inl ⟨_, h⟩))
      · exact .inl h
    | dropDone d =>
      rcases context_setContext_cases s d d .empty with ⟨-, h⟩ | h
      · exact .inr (.inl h)
      · exact .inl h
    | processStream d st st' rst ks ready fit taken =>
      refine .inr (.inr (.inr ⟨_, .stream st', rst, ready, ?_, .inl (takeBytes_keeps taken).2.2⟩))
      exact context_setContext_same _ (by rw [writeBytes_ctx]; exact lt_length_of_ready s ready) _
    | retbyteDone d b kb st st' rst ready taken =>
      exact .inr (.inr (.inr ⟨_, .stream st', rst, ready, context_setContext_same s (lt_length_of_ready s ready) _,
        .inl (nextByte_keeps taken).2.2⟩))
    | resetDone d cur rst ready =>
      exact .inr (.inr (.inr ⟨_, rst, rst, ready, context_setContext_same s (lt_length_of_ready s ready) _, .inr rfl⟩))
  · exact .inl (he.context_ne hc)

/-- Settles O51: a context that stays READY keeps its reset image, and its KeySchedule is that of the reset image before and
after. -/
theorem keyScheduleImmutable : Obligations.KeyScheduleImmutable := by
  unfold Obligations.KeyScheduleImmutable
  intro i s t c cur rst cur' rst' hinv hi hs hexec ht
  have hkind : ¬ i.IsInit ∧ ∀ k, i ≠ .restore c k := by
    rcases hi with ⟨d, rfl⟩ | ⟨d, b, rfl⟩ | ⟨d, rfl⟩ <;> refine ⟨?_, nofun⟩ <;> rintro ⟨eng, e, a, h⟩
    · exact (initOf_ne eng e a).1 d h.symm
    · exact (initOf_ne eng e a).2.1 d b h.symm
    · exact (initOf_ne eng e a).2.2.1 d h.symm
  rcases (commandEffect_of_exec hexec).context_cases c fun _ => hkind with
    h | h | ⟨e, h⟩ | ⟨cur₀, cur₁, rst₀, hready, hmoved, hkeys⟩
  · obtain ⟨rfl, rfl⟩ := Context.ready.inj (ht.symm.trans (h.trans hs))
    exact ⟨rfl, rfl⟩
  · rw [h] at ht; cases ht
  · rw [h] at ht; cases ht
  · obtain ⟨rfl, rfl⟩ := Context.ready.inj (hready.symm.trans hs)
    obtain ⟨rfl, rfl⟩ := Context.ready.inj (hmoved.symm.trans ht)
    refine ⟨?_, rfl⟩
    rcases hkeys with hkeys | rfl
    · exact hkeys
    · exact (hinv.instance_of_ready hs).same_keys.symm

/-- A command other than INIT and RESTORE on a context keeps what the context can hold of a reset image. -/
theorem CommandEffect.holds {s t : State} {i : Instr} (he : CommandEffect s i t) {c : BitVec 4} {rst : CipherState}
    (hi : i.ctxOf = c → ¬ i.IsInit ∧ ∀ k, i ≠ .restore c k)
    (h : (∃ cur, s.context c = .ready cur rst) ∨ s.context c = .empty ∨ ∃ e, s.context c = .dead e) :
    (∃ cur, t.context c = .ready cur rst) ∨ t.context c = .empty ∨ ∃ e, t.context c = .dead e := by
  rcases he.context_cases c hi with heq | hempty | hdead | ⟨cur, cur', rst₀, hready, hmoved, -⟩
  · rwa [heq]
  · exact .inr (.inl hempty)
  · exact .inr (.inr hdead)
  · rw [hready] at h
    rcases h with ⟨cur₀, h⟩ | h | ⟨e, h⟩ <;> cases h
    exact .inl ⟨cur', hmoved⟩

/-- A word written to `CMD` changes neither the configuration nor the queue. -/
theorem runCommand_fields {cw : Word} {s t : State} (h : runCommand cw s = .next t) :
    t.cfg = s.cfg ∧ t.pending = s.pending := by
  rcases runCommand_cases h with ⟨i, -, he⟩ | ⟨-, rfl⟩
  · obtain ⟨hcfg, -, -, -, hpending, -⟩ := he.fields_eq
    exact ⟨hcfg, hpending⟩
  · exact ⟨rfl, rfl⟩

/-- An access other than a write to `CMD` changes no context, no configuration and no queue (20_memory.md R51). -/
theorem serve_keeps_contexts {a : HostAccess} {s t : State} (h : serve a s = .next t) :
    (∃ v, a = .write s.cfg.coreBase 4 v ∧ runCommand v s = .next t) ∨
    ((∀ c, t.context c = s.context c) ∧ t.cfg = s.cfg ∧ t.pending = s.pending) := by
  rcases serve_cases h with ⟨w, rfl⟩ | hcmd | ⟨addr, size, v, x, -, rfl⟩
  · exact .inr ⟨fun _ => rfl, rfl, rfl⟩
  · exact .inl hcmd
  · refine .inr ?_
    rcases writeTarget_cases s x size v with ⟨a, b, d, heq⟩ | ⟨buf, i, -, heq⟩ <;> rw [heq] <;> simp

/-- Settles O60: the access taken off the queue is no INIT and no RESTORE on the context, so what it holds of the reset image
stays; the queue only gets shorter. -/
theorem stepKeepsResetImage : Obligations.StepKeepsResetImage := by
  unfold Obligations.StepKeepsResetImage
  intro c rst s t h hstep
  rcases step_cases hstep with ⟨-, rfl⟩ | ⟨a, rest, hpending, hserve⟩
  · exact h
  · have hrest : ∀ (w : Word) (i : Instr), HostAccess.write s.cfg.coreBase 4 w ∈ rest → decode w = .ok i → i.ctxOf = c →
        ¬ i.IsInit ∧ ∀ j, i ≠ .restore c j :=
      fun w i hw => h.pending_ok w i (hpending ▸ List.mem_cons_of_mem a hw)
    rcases serve_keeps_contexts hserve with ⟨v, ha, hrun⟩ | ⟨hctx, hcfg, hqueue⟩
    · obtain ⟨hcfg, hqueue⟩ := runCommand_fields hrun
      refine ⟨?_, by rw [hcfg, hqueue]; exact hrest⟩
      rcases runCommand_cases hrun with ⟨i, hdecode, he⟩ | ⟨-, rfl⟩
      · exact he.holds (h.pending_ok v i (by rw [hpending, ha]; exact List.mem_cons_self) hdecode) h.holds
      · exact h.holds
    · exact ⟨by rw [hctx]; exact h.holds, by rw [hcfg, hqueue]; exact hrest⟩

end Sys2Proof.Machine
end

section
/-!
SUPPORT. The step, the state after HRESET and the reads of the registers (10_state.md R38 to R44, R49; logs 4, 5, 10).
-/

namespace Sys2Proof.Machine

theorem step_of_pending {s : State} {a : HostAccess} {rest : List HostAccess} (h : s.pending = a :: rest) :
    step s = serve a { s with pending := rest } := by
  simp only [step, h]

/-- Settles O6: the two arms of `step`. -/
theorem stepServesOldestAccess : Obligations.StepServesOldestAccess := by
  unfold Obligations.StepServesOldestAccess
  refine ⟨fun s a rest h => step_of_pending h, fun s h => ?_⟩
  simp only [step, h]

/-- A write of a legal word to `CMD` runs its command (10_state.md R38). -/
theorem serve_commandWrite {s : State} {cw : Word} {i : Instr} (h : decode cw = .ok i) :
    serve (.write s.cfg.coreBase 4 cw) s = exec i s := by
  simp only [serve, locate_cmd, runCommand, h]

/-- Settles O7: the access at `CORE_BASE` reaches `CMD`, and a legal word runs its command. -/
theorem stepRunsDecodedCommand : Obligations.StepRunsDecodedCommand := by
  unfold Obligations.StepRunsDecodedCommand
  refine ⟨fun s rest cw i hpending hdecode => ?_, fun s cw i hdecode => ?_⟩
  · rw [step_of_pending hpending]
    exact serve_commandWrite (s := { s with pending := rest }) hdecode
  · have hword : BitVec.ofNat 32 (cw.toNat % 2 ^ 32) = cw := by
      rw [Nat.mod_eq_of_lt cw.isLt, BitVec.ofNat_toNat, BitVec.setWidth_eq]
    have hpending : (s.withFetchWord 32 cw.toNat).pending = .write s.cfg.coreBase 4 cw :: s.pending := by
      simp only [State.withFetchWord, commandWrite, hword]
    rw [step_of_pending hpending]
    exact serve_commandWrite (s := s) hdecode

/-- Settles O52: `State.hreset` field by field; every context it makes is EMPTY, whose view is 0. -/
theorem hresetValues : Obligations.HresetValues := by
  unfold Obligations.HresetValues
  refine fun cfg => ⟨rfl, List.length_replicate, List.length_replicate, fun x => List.eq_of_mem_replicate,
    fun x => List.eq_of_mem_replicate, rfl, rfl, rfl, rfl, rfl, rfl, fun c => ?_⟩
  by_cases hc : c < cfg.nctx
  · have hempty : (List.replicate cfg.nctx Context.empty).getD c .empty = .empty := by
      simp [List.getD_eq_getElem?_getD, hc]
    exact (if_pos hc).trans (congrArg Context.stat hempty)
  · exact if_neg hc

/-- A 32-bit read of a register (10_state.md R38 to R41, R44). -/
theorem serve_read_reg (s : State) {off : Nat} {r : Reg} (hlt : off < 0x80) (h4 : off % 4 = 0) (hr : regAt off = some r) :
    serve (.read (s.cfg.coreBase + off) 4) s = .next { s with busData := s.readReg r } := by
  simp only [serve, locate_reg s.cfg off r hlt h4 hr]
  rfl

/-- A 32-bit read of `CTXSTAT[c]` (10_state.md R44). -/
theorem serve_read_ctxstat (s : State) (c : BitVec 4) :
    serve (.read (s.cfg.coreBase + 0x020 + 4 * c.toNat) 4) s =
      .next { s with busData := s.readReg (.ctxstat c.toNat) } := by
  have hc := c.isLt
  rw [Nat.add_assoc]
  exact serve_read_reg s (by omega) (by omega) (regAt_ctxstat c)

theorem readReg_ctxstat {s : State} {c : BitVec 4} (h : s.hasContext c) :
    s.readReg (.ctxstat c.toNat) = (s.context c).stat := if_pos h

/-- Beyond `NCTX` the view reads 0 (10_state.md R44). -/
theorem readReg_ctxstat_of_not {s : State} {c : BitVec 4} (h : ¬ s.hasContext c) : s.readReg (.ctxstat c.toNat) = 0 :=
  if_neg h

/-- CTXSTAT as a number: LIFE at bit 0, ENG at 4, DIR at 8, DCLASS at 12, DCODE at 16 (10_state.md R44). -/
theorem toNat_ctxStatWord (life : BitVec 2) (eng : BitVec 4) (dir : Bool) (dclass : BitVec 2) (dcode : BitVec 4) :
    (ctxStatWord life eng dir dclass dcode).toNat =
      life.toNat + 16 * eng.toNat + 256 * dir.toNat + 4096 * dclass.toNat + 65536 * dcode.toNat := by
  simp only [ctxStatWord, toNat_append_eq_add, BitVec.toNat_ofNat, BitVec.toNat_ofBool]
  omega

/-- Settles O8: every register has its offset, and CTXSTAT is the view of the context, field by field. -/
theorem hostReadsRegisters : Obligations.HostReadsRegisters := by
  unfold Obligations.HostReadsRegisters
  refine fun s => ⟨serve_read_reg s (off := 0x000) (by decide) rfl rfl, serve_read_reg s (off := 0x004) (by decide) rfl rfl,
    serve_read_reg s (off := 0x008) (by decide) rfl rfl, serve_read_reg s (off := 0x00C) (by decide) rfl rfl,
    serve_read_reg s (off := 0x010) (by decide) rfl rfl, serve_read_reg s (off := 0x014) (by decide) rfl rfl,
    fun c hc => ?_, fun c hc => ?_⟩
  · refine ⟨(s.context c).stat, by rw [serve_read_ctxstat, readReg_ctxstat hc], ?_, ?_, ?_, ?_⟩
    · intro h; rw [h]; rfl
    · intro st rst h; rw [h, Context.stat, toNat_ctxStatWord]; rfl
    · intro st rst h; rw [h, Context.stat, toNat_ctxStatWord]; rfl
    · intro e h; rw [h, Context.stat, toNat_ctxStatWord]; rfl
  · rw [serve_read_ctxstat, readReg_ctxstat_of_not hc]

/-- An aligned 32-bit access of the region outside registers and windows reaches a reserved offset (10_state.md R42,
20_memory.md R55). -/
theorem locate_reserved {cfg : Config} {off : Nat} (hI : cfg.InRange) (hlt : off < 0x30000) (h4 : off % 4 = 0)
    (hreg : ¬ off < 0x18) (hstat : ¬ (0x20 ≤ off ∧ off < 0x60)) (hkey : ¬ (0x80 ≤ off ∧ off < 0xC0))
    (hibuf : ¬ (0x10000 ≤ off ∧ off < 0x10000 + cfg.ibufSize)) (hobuf : ¬ (0x20000 ≤ off ∧ off < 0x20000 + cfg.obufSize)) :
    locate cfg (cfg.coreBase + off) 4 = .at .reserved := by
  have hkeybuf := hI.keybuf_eq
  have hivbuf := hI.ivbuf_eq
  have hin : ¬ (cfg.coreBase + off < cfg.coreBase ∨ cfg.coreBase + regionSize ≤ cfg.coreBase + off) := by
    rw [regionSize_eq]; omega
  have hbuf : bufferAt cfg off = none := by
    rw [bufferAt_eq, if_neg (by omega), if_neg (by omega), if_neg hibuf, if_neg hobuf]
  have hnone : regAt off = none := by
    unfold regAt
    repeat (rw [if_neg (by omega)])
  rw [locate, if_neg hin]
  simp [targetAt, hbuf, hnone, h4]

/-- Settles O10: the access reaches a reserved offset, which reads 0 and ignores writes. -/
theorem reservedOffsetsReadZero : Obligations.ReservedOffsetsReadZero := by
  unfold Obligations.ReservedOffsetsReadZero
  intro s off hI hlt h4 hreg hstat hkey hibuf hobuf
  have hloc := locate_reserved hI hlt h4 hreg hstat hkey hibuf hobuf
  refine ⟨?_, fun v => ?_⟩
  · simp only [serve, hloc]
    rfl
  · simp only [serve, hloc]
    rfl

end Sys2Proof.Machine
end

section
/-!
SUPPORT. The IterationCounter of LF128 and LF256 (10_state.md R32, 70_reset_and_hazards.md R199), the two engines in one: an
LF engine is a constructor `mk` of `StreamState` whose `NextByte` is a refill within the limit `max` and one step of the
cursor.
-/

namespace Sys2Proof.Machine

section
variable {cfg : Config} {max : Nat} {mk : LfState → StreamState}

/-- The counter and the cursor after one byte: a word is counted when its first byte is needed (10_state.md R32). -/
theorem lfRefill_counts {rom : Rom} {st t : LfState} (h : lfRefill rom max st = some t) :
    (st.buf.idx ≠ 4 ∧ t.buf.advance.idx = st.buf.idx + 1 ∧ t.iter = st.iter) ∨
    (st.buf.idx = 4 ∧ t.buf.advance.idx = 1 ∧ t.iter = st.iter + 1 ∧ t.iter ≤ max) := by
  rcases lfRefill_cases h with ⟨hidx, rfl⟩ | ⟨hidx, hlimit, rfl⟩
  · exact .inl ⟨hidx, rfl, rfl⟩
  · exact .inr ⟨hidx, rfl, rfl, hlimit⟩

/-- `n` bytes taken from an LF engine count one word for every four bytes the buffer did not hold, rounded up, and never
more than the limit. -/
theorem takeBytes_lf_iter
    (hmk : ∀ st, nextByte cfg (mk st) =
      (lfRefill cfg.rom max st).map fun t => (t.buf.head, mk { t with buf := t.buf.advance }))
    {n : Nat} {st : LfState} {out : StreamState} {ks : List Byte} (hidx : st.buf.idx ≤ 4)
    (h : takeBytes cfg n (mk st) = some (ks, out)) :
    ∃ st', out = mk st' ∧ st'.iter = st.iter + (n - (4 - st.buf.idx) + 3) / 4 ∧ (st.iter ≤ max → st'.iter ≤ max) := by
  induction n generalizing st ks with
  | zero => cases h; exact ⟨st, rfl, by simp, id⟩
  | succ n ih =>
    obtain ⟨b, st₁, bs, hb, hrest, -⟩ := takeBytes_succ_cases h
    rw [hmk] at hb
    obtain ⟨t, ht, heq⟩ := Option.map_eq_some_iff.mp hb
    obtain ⟨-, rfl⟩ := Prod.mk.inj heq
    rcases lfRefill_counts ht with ⟨hne, hcursor, hiter⟩ | ⟨hfour, hcursor, hiter, hlimit⟩
    · obtain ⟨st', rfl, hst', hle⟩ := ih (by rw [hcursor]; omega) hrest
      rw [hcursor] at hst'
      exact ⟨st', rfl, by rw [hst']; simp only [hiter]; omega, fun hmax => hle (hiter ▸ hmax)⟩
    · obtain ⟨st', rfl, hst', hle⟩ := ih (by rw [hcursor]; omega) hrest
      rw [hcursor] at hst'
      exact ⟨st', rfl, by rw [hst']; simp only [hiter]; omega, fun _ => hle hlimit⟩

end

/-- Settles O38: the count on each of the two LF engines. -/
theorem iterationCounterCountsWords : Obligations.IterationCounterCountsWords := by
  unfold Obligations.IterationCounterCountsWords
  refine ⟨fun cfg n st st' ks hidx h => ?_, fun cfg n st st' ks hidx h => ?_⟩
  · obtain ⟨st₁, heq, hiter⟩ := takeBytes_lf_iter (max := cfg.lfMax128) (mk := .lf128) (fun _ => rfl) hidx h
    cases heq
    exact hiter
  · obtain ⟨st₁, heq, hiter⟩ := takeBytes_lf_iter (max := cfg.lfMax256) (mk := .lf256) (fun _ => rfl) hidx h
    cases heq
    exact hiter

end Sys2Proof.Machine
end

section
/-!
SUPPORT. Two runs of one command from related states (40_contract.md R105). `Simulation c R` says that the relation `R` fixes
what every command on context `c` reads and is kept by the operations every command is made of; `Simulation.exec` is the
commuting diagram: related states lead to related states. What INIT and PROCESS read beyond that is asked for separately.
-/

namespace Sys2Proof.Machine

/-- A relation between states that the shared operations of a command on context `c` keep. -/
structure Simulation (c : BitVec 4) (R : State → State → Prop) : Prop where
  cfg_eq : ∀ {u s}, R u s → u.cfg = s.cfg
  cmd_eq : ∀ {u s}, R u s → u.cmd = s.cmd
  context_eq : ∀ {u s}, R u s → u.context c = s.context c
  snapshotAt_eq : ∀ {u s}, R u s → ∀ k, u.snapshotAt k = s.snapshotAt k
  latch : ∀ {u s}, R u s → ∀ cw, R (u.latch cw) (s.latch cw)
  report : ∀ {u s}, R u s → ∀ st res, R (u.report st res) (s.report st res)
  setContext : ∀ {u s}, R u s → ∀ x, R (u.setContext c x) (s.setContext c x)
  setSnapshot : ∀ {u s}, R u s → ∀ k x, R (u.setSnapshot k x) (s.setSnapshot k x)

/-- What PROCESS reads beyond its context and writes beyond it (10_state.md R39, R45; 20_memory.md R53). -/
structure ProcessSimulation (R : State → State → Prop) : Prop where
  arg0_eq : ∀ {u s}, R u s → u.arg0 = s.arg0
  arg1_eq : ∀ {u s}, R u s → u.arg1 = s.arg1
  arg2_eq : ∀ {u s}, R u s → u.arg2 = s.arg2
  ibuf_eq : ∀ {u s}, R u s → ∀ a, u.readByte .ibuf a = s.readByte .ibuf a
  writeObuf : ∀ {u s}, R u s → ∀ base bs, R (u.writeBytes .obuf base bs) (s.writeBytes .obuf base bs)
  leaveResidue : ∀ {u s}, R u s → R u.leaveResidue s.leaveResidue

/-- What INIT reads beyond its context (40_contract.md R105). -/
def InitSimulation (R : State → State → Prop) : Prop :=
  ∀ {u s}, R u s → ∀ eng a, setupOf eng a u = setupOf eng a s

/-- Both answer a next state, and the next states are related. -/
def RelNext (R : State → State → Prop) (o o' : Out) : Prop := ∃ u t, o = .next u ∧ o' = .next t ∧ R u t

namespace Simulation

variable {c : BitVec 4} {R : State → State → Prop} {u s : State}

theorem succeed (hR : Simulation c R) (h : R u s) (result : Word) : RelNext R (u.succeed result) (s.succeed result) :=
  ⟨_, _, rfl, rfl, by rw [hR.cmd_eq h]; exact hR.report h _ _⟩

theorem raise_usage (hR : Simulation c R) (h : R u s) (e : UsageError) :
    RelNext R (u.raise (.usage e)) (s.raise (.usage e)) :=
  ⟨_, _, rfl, rfl, by rw [hR.cmd_eq h]; exact hR.report h _ _⟩

theorem raise_terminal (hR : Simulation c R) (h : R u s) (hcmd : ctxField s.cmd = c) (e : TerminalError) :
    RelNext R (u.raise (.terminal e)) (s.raise (.terminal e)) := by
  refine ⟨_, _, Machine.raise_terminal u e, Machine.raise_terminal s e, ?_⟩
  rw [hR.cmd_eq h, hcmd]
  exact hR.report (hR.setContext h _) _ _

theorem onContext (hR : Simulation c R) (h : R u s) (i : Instr) {body : State → Context → Out}
    (hbody : R (u.latch (encode i)) (s.latch (encode i)) → ∀ x,
      RelNext R (body (u.latch (encode i)) x) (body (s.latch (encode i)) x)) :
    RelNext R (onContext i c u body) (onContext i c s body) := by
  have hl := hR.latch h (encode i)
  simp only [Machine.onContext, hR.cfg_eq hl, hR.context_eq hl]
  split
  · exact hR.raise_usage hl _
  · exact hbody hl _

theorem needReady (hR : Simulation c R) (h : R u s) (x : Context) {body body' : CipherState → CipherState → Out}
    (hbody : ∀ cur rst, RelNext R (body cur rst) (body' cur rst)) :
    RelNext R (needReady u x body) (needReady s x body') := by
  cases x with
  | empty => exact hR.raise_usage h _
  | dead e => exact hR.raise_usage h _
  | ready cur rst => exact hbody cur rst

theorem needSlot (hR : Simulation c R) (h : R u s) (k : BitVec 4) {body body' : Out} (hbody : RelNext R body body') :
    RelNext R (needSlot u k body) (needSlot s k body') := by
  simp only [Machine.needSlot, hR.cfg_eq h]
  split
  · exact hR.raise_usage h _
  · exact hbody

/-- INIT from related states: the lifecycle and the check are the same, and so is what is installed. -/
theorem execInit (hR : Simulation c R) (hI : InitSimulation R) (h : R u s) (eng : Engine) (a : InitOperands) :
    RelNext R (exec (initOf eng c a) u) (exec (initOf eng c a) s) := by
  rw [exec_initOf, exec_initOf]
  refine hR.onContext h _ fun hl x => ?_
  cases x with
  | dead e => exact hR.raise_usage hl _
  | empty | ready =>
    cases configCheck eng a with
    | some e => exact hR.raise_terminal hl ((ctxField_encode _).trans (ctxOf_initOf eng c a)) _
    | none =>
      simp only [hI hl]
      exact hR.succeed (hR.setContext hl _) 0

/-- PROCESS on a stream engine from related states: the same bytes are taken and written. -/
theorem processStream (hR : Simulation c R) (hP : ProcessSimulation R) (h : R u s) (hcmd : ctxField s.cmd = c)
    (st : StreamState) (rst : CipherState) : RelNext R (processStream c u st rst) (processStream c s st rst) := by
  have hlen : u.len = s.len := congrArg BitVec.toNat (hP.arg1_eq h)
  cases ht : takeBytes s.cfg s.len st with
  | none =>
    rw [processStream_none u c rst (by rw [hR.cfg_eq h, hlen, ht]), processStream_none s c rst ht]
    exact hR.raise_terminal (hP.leaveResidue h) hcmd _
  | some p =>
    obtain ⟨ks, st'⟩ := p
    have hin : u.inputBytes = s.inputBytes := by
      simp only [State.inputBytes, State.readBytes, State.inOff, hlen, hP.arg0_eq h, hP.ibuf_eq h]
    have hout : u.outOff = s.outOff := congrArg BitVec.toNat (hP.arg2_eq h)
    rw [processStream_some u c rst (by rw [hR.cfg_eq h, hlen, ht]), processStream_some s c rst ht, hin, hout, hP.arg1_eq h]
    exact hR.succeed (hR.setContext (hP.writeObuf h _ _) _) _

/-- PROCESS on BLK from related states: the same blocks are transformed and written. -/
theorem processBlk (hR : Simulation c R) (hP : ProcessSimulation R) (h : R u s) (st : BlkState) :
    RelNext R (processBlk u st) (processBlk s st) := by
  have hlen : u.len = s.len := congrArg BitVec.toNat (hP.arg1_eq h)
  have hout : u.outOff = s.outOff := congrArg BitVec.toNat (hP.arg2_eq h)
  have hbytes : blkOutput u st = blkOutput s st := by
    simp only [blkOutput, State.readBytes, State.inOff, hlen, hR.cfg_eq h, hP.arg0_eq h, hP.ibuf_eq h]
  simp only [Machine.processBlk, hlen, hout, hbytes, hP.arg1_eq h]
  split
  · exact hR.succeed (hP.writeObuf h _ _) _
  · exact hR.raise_usage h _

theorem execProcess (hR : Simulation c R) (hP : ProcessSimulation R) (h : R u s) :
    RelNext R (execProcess c u) (execProcess c s) := by
  refine hR.onContext h _ fun hl x => hR.needReady hl x fun cur rst => ?_
  have hfit : (u.latch (encode (.process c))).rangesFit = (s.latch (encode (.process c))).rangesFit := by
    rw [Bool.eq_iff_iff, rangesFit_iff, rangesFit_iff]
    simp only [State.inOff, State.len, State.outOff, hR.cfg_eq hl, hP.arg0_eq hl,
      hP.arg1_eq hl, hP.arg2_eq hl]
  rw [hfit]
  split
  · cases cur with
    | stream st => exact hR.processStream hP hl (ctxField_encode (.process c)) st rst
    | blk st => exact hR.processBlk hP hl st
  · exact hR.raise_usage hl _

theorem execRetbyte (hR : Simulation c R) (h : R u s) (b : Byte) :
    RelNext R (execRetbyte c b u) (execRetbyte c b s) := by
  refine hR.onContext h _ fun hl x => hR.needReady hl x fun cur rst => ?_
  cases cur with
  | blk st => exact hR.raise_usage hl _
  | stream st =>
    simp only [hR.cfg_eq hl]
    cases nextByte (s.latch (encode (.retbyte c b))).cfg st with
    | none => exact hR.raise_terminal hl (ctxField_encode (.retbyte c b)) _
    | some p => exact hR.succeed (hR.setContext hl _) _

theorem execReset (hR : Simulation c R) (h : R u s) : RelNext R (execReset c u) (execReset c s) :=
  hR.onContext h _ fun hl x => hR.needReady hl x fun _ _ => hR.succeed (hR.setContext hl _) 0

theorem execSnapshot (hR : Simulation c R) (h : R u s) (k : BitVec 4) :
    RelNext R (execSnapshot c k u) (execSnapshot c k s) :=
  hR.onContext h _ fun hl x => hR.needSlot hl k <| hR.needReady hl x fun _ _ => hR.succeed (hR.setSnapshot hl k _) 0

theorem execRestore (hR : Simulation c R) (h : R u s) (k : BitVec 4) :
    RelNext R (execRestore c k u) (execRestore c k s) := by
  refine hR.onContext h _ fun hl x => hR.needSlot hl k ?_
  cases x with
  | dead e => exact hR.raise_usage hl _
  | empty | ready =>
    simp only [hR.snapshotAt_eq hl]
    split
    · exact hR.raise_usage hl _
    · split
      · exact hR.raise_usage hl _
      · exact hR.succeed (hR.setContext hl _) 0

theorem execDrop (hR : Simulation c R) (h : R u s) : RelNext R (execDrop c u) (execDrop c s) :=
  hR.onContext h _ fun hl _ => hR.succeed (hR.setContext hl _) 0

/-- The commuting diagram: a command leads from related states to related states. -/
theorem exec {i : Instr} (hR : Simulation i.ctxOf R) (hI : i.IsInit → InitSimulation R)
    (hP : i.IsProcess → ProcessSimulation R) (h : R u s) : RelNext R (exec i u) (exec i s) := by
  cases i with
  | initLf128 c a => exact hR.execInit (hI ⟨.lf128, c, a, rfl⟩) h .lf128 a
  | initLf256 c a => exact hR.execInit (hI ⟨.lf256, c, a, rfl⟩) h .lf256 a
  | initCtr c a => exact hR.execInit (hI ⟨.ctr, c, a, rfl⟩) h .ctr a
  | initSrp c a => exact hR.execInit (hI ⟨.srp, c, a, rfl⟩) h .srp a
  | initBlk c a => exact hR.execInit (hI ⟨.blk, c, a, rfl⟩) h .blk a
  | process c => exact hR.execProcess (hP ⟨c, rfl⟩) h
  | retbyte c b => exact hR.execRetbyte h b
  | reset c => exact hR.execReset h
  | snapshot c k => exact hR.execSnapshot h k
  | restore c k => exact hR.execRestore h k
  | drop c => exact hR.execDrop h

/-- The commuting diagram, for a run whose next state is known. -/
theorem exec_next {i : Instr} {t : State} (hR : Simulation i.ctxOf R) (hI : i.IsInit → InitSimulation R)
    (hP : i.IsProcess → ProcessSimulation R) (h : R u s) (hexec : Machine.exec i s = .next t) :
    ∃ v, Machine.exec i u = .next v ∧ R v t := by
  obtain ⟨v, t', hv, ht', hvt⟩ := hR.exec hI hP h
  obtain rfl : t' = t := Host.Outcome.next.inj (ht'.symm.trans hexec)
  exact ⟨v, hv, hvt⟩

end Simulation

/-! ### What a command does not read -/

/-- The first state is the second with the replacement `f` made. -/
def Replaced (f : State → State) (u s : State) : Prop := u = f s

section
variable {i : Instr} {s t : State}

/-- The commuting diagram for a replacement: it may be made after the command as well as before it. -/
theorem exec_replaced {f : State → State} (hR : Simulation i.ctxOf (Replaced f)) (hI : i.IsInit → InitSimulation (Replaced f))
    (hP : i.IsProcess → ProcessSimulation (Replaced f)) (h : exec i s = .next t) : exec i (f s) = .next (f t) := by
  obtain ⟨u, hu, rfl⟩ := hR.exec_next hI hP rfl h
  exact hu

/-- Only INIT reads `KEYBUF` and `IVBUF` (10_state.md R45). -/
theorem exec_with_keybuf_ivbuf (hi : ¬ i.IsInit) (m m' : Memory) (h : exec i s = .next t) :
    exec i { s with keybuf := m, ivbuf := m' } = .next { t with keybuf := m, ivbuf := m' } := by
  refine exec_replaced (f := fun s => { s with keybuf := m, ivbuf := m' }) ?_ (fun hinit => absurd hinit hi) (fun _ => ?_) h
  · constructor <;> rintro _ s rfl <;> intros <;> rfl
  · constructor <;> rintro _ s rfl <;> intros <;> rfl

/-- Only PROCESS reads `IBUF` (10_state.md R45). -/
theorem exec_with_ibuf (hi : ¬ i.IsProcess) (m : Memory) (h : exec i s = .next t) :
    exec i { s with ibuf := m } = .next { t with ibuf := m } := by
  refine exec_replaced (f := fun s => { s with ibuf := m }) ?_ (fun _ => ?_) (fun hproc => absurd hproc hi) h
  · constructor <;> rintro _ s rfl <;> intros <;> rfl
  · rintro _ s rfl eng a; cases eng <;> rfl

/-- Only PROCESS reads the argument registers (10_state.md R39). -/
theorem exec_withArgs (hi : ¬ i.IsProcess) (a b d : Word) (h : exec i s = .next t) :
    exec i (s.withArgs a b d) = .next (t.withArgs a b d) := by
  refine exec_replaced (f := fun s => s.withArgs a b d) ?_ (fun _ => ?_) (fun hproc => absurd hproc hi) h
  · constructor <;> rintro _ s rfl <;> intros <;> rfl
  · rintro _ s rfl eng a; cases eng <;> rfl

/-- No command reads a context it does not name (40_contract.md R105). -/
theorem exec_setContext {d : BitVec 4} (hd : d ≠ i.ctxOf) (x : Context) (h : exec i s = .next t) :
    exec i (s.setContext d x) = .next (t.setContext d x) := by
  refine exec_replaced (f := fun s => s.setContext d x) ?_ (fun _ => ?_) (fun _ => ?_) h
  · exact
      { cfg_eq := by rintro _ s rfl; rfl
        cmd_eq := by rintro _ s rfl; rfl
        context_eq := by rintro _ s rfl; exact context_setContext_ne s hd.symm x
        snapshotAt_eq := by rintro _ s rfl k; rfl
        latch := by rintro _ s rfl cw; rfl
        report := by rintro _ s rfl st res; rfl
        setContext := by rintro _ s rfl y; exact setContext_comm s hd.symm x y
        setSnapshot := by rintro _ s rfl k y; rfl }
  · rintro _ s rfl eng a; cases eng <;> rfl
  · constructor <;> rintro _ s rfl <;> intros <;> rfl

end

/-! ### OBUF and the counter of free values -/

/-- Two states that differ in `OBUF` and in the counter of free values at most (log 3). -/
def EqButObuf (u s : State) : Prop := u = { s with obuf := u.obuf, freeCount := u.freeCount }

/-- Every command keeps states equal but for `OBUF` and the counter. -/
theorem simulation_eqButObuf (c : BitVec 4) : Simulation c EqButObuf where
  cfg_eq h := by rw [h]
  cmd_eq h := by rw [h]
  context_eq h := by rw [h]; rfl
  snapshotAt_eq h k := by rw [h]; rfl
  latch h cw := by rw [h]; rfl
  report h st res := by rw [h]; rfl
  setContext h x := by rw [h]; rfl
  setSnapshot h k x := by rw [h]; rfl

theorem initSimulation_eqButObuf : InitSimulation EqButObuf := by
  intro u s h eng a
  rw [h]
  cases eng <;> rfl

theorem processSimulation_eqButObuf : ProcessSimulation EqButObuf where
  arg0_eq h := by rw [h]
  arg1_eq h := by rw [h]
  arg2_eq h := by rw [h]
  ibuf_eq h a := by rw [h]; rfl
  writeObuf h base bs := by rw [h]; rfl
  leaveResidue h := by rw [h]; rfl

/-- What a PROCESS on context `c` that succeeds writes to its range of `OBUF` (40_contract.md R89). -/
def processOutput (s : State) (c : BitVec 4) : List Byte :=
  match s.context c with
  | .ready (.blk st) _ => blkOutput s st
  | .ready (.stream st) _ =>
    match takeBytes s.cfg s.len st with
    | some (ks, _) => xorBytes s.inputBytes ks
    | none => []
  | .empty | .dead _ => []

theorem processOutput_blk {s : State} {c : BitVec 4} {st : BlkState} {rst : CipherState}
    (h : s.context c = .ready (.blk st) rst) : processOutput s c = blkOutput s st := by
  simp only [processOutput, h]

theorem processOutput_stream {s : State} {c : BitVec 4} {st st' : StreamState} {rst : CipherState} {ks : List Byte}
    (h : s.context c = .ready (.stream st) rst) (ht : takeBytes s.cfg s.len st = some (ks, st')) :
    processOutput s c = xorBytes s.inputBytes ks := by
  simp only [processOutput, h, ht]

/-- A PROCESS that succeeds writes `processOutput`, byte by byte. -/
theorem CommandEffect.readByte_processOutput {s t : State} {c : BitVec 4} (he : CommandEffect s (.process c) t)
    (hok : statusClass t.status = 0) {a : Nat} (hlo : s.outOff ≤ a) (hhi : a < s.outOff + s.len) :
    t.readByte .obuf a = byteAt (processOutput s c) (a - s.outOff) := by
  obtain ⟨j, rfl⟩ := Nat.exists_eq_add_of_le hlo
  have hwritten (bs : List Byte) (hlen : bs.length = s.len) :
      (s.writeBytes .obuf s.outOff bs).readByte .obuf (s.outOff + j) = byteAt bs j := by
    have hj : j < bs.length := by omega
    rw [readByte_writeBytes_inside s .obuf s.outOff bs j hj, byteAt, List.getD_eq_getElem _ _ hj]
  rw [Nat.add_sub_cancel_left]
  generalize hi : Instr.process c = i at he
  cases he with
  | refused => simp at hok
  | processLimit => simp [TerminalError.cls] at hok
  | initKilled eng | initDone eng => exact absurd hi.symm ((initOf_ne eng _ _).1 c)
  | processBlk c st rst ready fit blocks =>
    cases hi
    rw [done_readByte, hwritten _ (blkOutput_length s st blocks), processOutput_blk ready]
  | processStream c st st' rst ks ready fit taken =>
    cases hi
    rw [done_readByte, setContext_readByte, hwritten _ (xorBytes_length taken),
      processOutput_stream ready taken]
  | _ => cases hi

/-- A command that ends in a usage error writes nothing to `OBUF` (20_memory.md R62). -/
theorem CommandEffect.readByte_of_usage {s t : State} {i : Instr} (he : CommandEffect s i t)
    (hclass : statusClass t.status = 2) (a : Nat) : t.readByte .obuf a = s.readByte .obuf a := by
  cases he with
  | refused => simp
  | initKilled | processLimit | retbyteLimit => simp [TerminalError.cls] at hclass
  | _ => simp at hclass

/-- The classes PROCESS can end in: success, a usage error, WORD_LIMIT (60_exceptions.md R178 to R180). -/
theorem CommandEffect.process_class {s t : State} {c : BitVec 4} (he : CommandEffect s (.process c) t) :
    statusClass t.status = 0 ∨ statusClass t.status = 2 ∨ statusClass t.status = 3 := by
  generalize hi : Instr.process c = i at he
  cases he with
  | initKilled eng | initDone eng => exact absurd hi.symm ((initOf_ne eng _ _).1 c)
  | refused => exact .inr (.inl (statusClass_refusedWith _ _ _))
  | processLimit => exact .inr (.inr (statusClass_killedWith _ _ _ _))
  | processBlk | processStream => exact .inl (statusClass_done _ _ _)
  | _ => cases hi

/-- No command reads `OBUF` or the counter of free values: from states that differ there, the next states differ there at
most; the range of a PROCESS that succeeds is the same, and what is not written stays (40_contract.md R92, R105). -/
theorem exec_eqButObuf {i : Instr} {s v t : State} (hv : EqButObuf v s) (h : exec i s = .next t) :
    ∃ u, exec i v = .next u ∧ EqButObuf u t ∧
      (i.IsProcess → statusClass t.status = 0 → ∀ a, s.outOff ≤ a → a < s.outOff + s.len →
        u.readByte .obuf a = t.readByte .obuf a) ∧
      (∀ a, (i.IsProcess → statusClass t.status ≠ 2 → a < s.outOff ∨ s.outOff + s.len ≤ a) →
        u.readByte .obuf a = v.readByte .obuf a) := by
  obtain ⟨u, hu, hut⟩ := (simulation_eqButObuf i.ctxOf).exec_next (fun _ => initSimulation_eqButObuf)
    (fun _ => processSimulation_eqButObuf) hv h
  have hstatus : u.status = t.status := by rw [hut]
  have hout : v.outOff = s.outOff := by rw [hv]; rfl
  have hlen : v.len = s.len := by rw [hv]; rfl
  have hev := commandEffect_of_exec hu
  refine ⟨u, hu, hut, ?_, fun a ha => ?_⟩
  · rintro ⟨c, rfl⟩ hok a hlo hhi
    have hsame : processOutput v c = processOutput s c := by rw [hv]; rfl
    rw [hev.readByte_processOutput (hstatus ▸ hok) (hout ▸ hlo) (by omega), hsame, hout,
      (commandEffect_of_exec h).readByte_processOutput hok hlo hhi]
  · by_cases hclass : statusClass t.status = 2
    · exact hev.readByte_of_usage (hstatus ▸ hclass) a
    · exact hev.readByte_obuf a fun hproc => by rw [hout, hlen]; exact ha hproc hclass

/-- Equal states are the same after a command. -/
theorem SameAfter.refl (i : Instr) (t : State) : SameAfter i t t := ⟨rfl, fun _ _ => rfl⟩

/-- With another counter of free values a command leaves the same but for the bytes that are free values (log 3). -/
theorem exec_with_freeCount {i : Instr} {s t : State} (n : Nat) (h : exec i s = .next t) :
    ∃ u, exec i { s with freeCount := n } = .next u ∧ SameAfter i u t := by
  obtain ⟨u, hu, hut, hinside, -⟩ := exec_eqButObuf (v := { s with freeCount := n }) rfl h
  refine ⟨u, hu, hut, fun a ha => ?_⟩
  have he := commandEffect_of_exec h
  have hev := commandEffect_of_exec hu
  have hstatus : u.status = t.status := by rw [hut]
  by_cases hrange : i.IsProcess → a < s.outOff ∨ s.outOff + s.len ≤ a
  · exact (hev.readByte_obuf a hrange).trans (he.readByte_obuf a hrange).symm
  · obtain ⟨hproc, hin⟩ := Classical.not_imp.mp hrange
    obtain ⟨c, rfl⟩ := hproc
    rcases he.process_class with hok | husage | hlimit
    · exact hinside ⟨c, rfl⟩ hok a (by omega) (by omega)
    · exact (hev.readByte_of_usage (hstatus ▸ husage) a).trans (he.readByte_of_usage husage a).symm
    · obtain ⟨-, -, harg1, harg2, -⟩ := hev.fields_eq
      have hout := ha ⟨c, rfl⟩ (hstatus ▸ hlimit)
      simp only [State.outOff, State.len, harg1, harg2] at hout
      exact absurd hout hin

/-- Settles O49: each clause is the commuting diagram for the replacement it speaks of. -/
theorem commandsReadOnlyTheirOperands : Obligations.CommandsReadOnlyTheirOperands := by
  unfold Obligations.CommandsReadOnlyTheirOperands
  intro i s t hexec
  refine ⟨fun hi m m' => ⟨_, exec_with_keybuf_ivbuf hi m m' hexec, .refl i _⟩, fun hi m => exec_with_ibuf hi m hexec,
    fun hi a b d => exec_withArgs hi a b d hexec, fun m => exec_eqButObuf rfl hexec,
    fun d x hd => ⟨_, exec_setContext hd x hexec, .refl i _⟩, fun n => exec_with_freeCount n hexec⟩

end Sys2Proof.Machine
end

section
/-!
SUPPORT. A legal word is the word of the command it decodes to (30_encoding.md R70, R71): the formats lose no bit.
-/

namespace Sys2Proof

/-- A format Z word is its fields. -/
theorem encodeZ_fields {cw : Word} (hz : cw.extractLsb' 0 24 = 0#24) : encodeZ (opField cw) (ctxField cw) = cw := by
  rw [encodeZ, ← hz]
  apply BitVec.eq_of_toNat_eq
  simp only [opField, ctxField, Machine.toNat_append_eq_add, BitVec.extractLsb'_toNat, Nat.shiftRight_eq_div_pow]
  omega

/-- A format B word is its fields. -/
theorem encodeB_fields {cw : Word} (hz : cw.extractLsb' 8 16 = 0#16) :
    encodeB (opField cw) (ctxField cw) (cw.extractLsb' 0 8) = cw := by
  rw [encodeB, ← hz]
  apply BitVec.eq_of_toNat_eq
  simp only [opField, ctxField, Machine.toNat_append_eq_add, BitVec.extractLsb'_toNat, Nat.shiftRight_eq_div_pow]
  omega

/-- A format S word is its fields. -/
theorem encodeS_fields {cw : Word} (hz : cw.extractLsb' 0 20 = 0#20) :
    encodeS (opField cw) (ctxField cw) (engField cw) = cw := by
  rw [encodeS, ← hz]
  apply BitVec.eq_of_toNat_eq
  simp only [opField, ctxField, engField, Machine.toNat_append_eq_add, BitVec.extractLsb'_toNat,
    Nat.shiftRight_eq_div_pow]
  omega

/-- A one-bit field, as the formats write it. -/
theorem ofBool_getLsbD_eq (cw : Word) (j : Nat) : BitVec.ofBool (cw.getLsbD j) = cw.extractLsb' j 1 := by
  apply BitVec.eq_of_getLsbD_eq
  intro k hk
  obtain rfl : k = 0 := by omega
  simp

/-- A format I word is its fields. -/
theorem encodeInit_fields {cw : Word} {eng : Engine} (hop : opField cw = 1#4) (hz : cw.getLsbD 16 = false)
    (heng : eng.id = engField cw) : encodeInit eng (ctxField cw) (initFields cw) = cw := by
  have hbit : 0#1 = cw.extractLsb' 16 1 := by rw [← ofBool_getLsbD_eq, hz]; rfl
  rw [encodeInit, ← hop, heng, hbit]
  apply BitVec.eq_of_toNat_eq
  simp only [initFields, ofBool_getLsbD_eq, opField, ctxField, engField, Machine.toNat_append_eq_add,
    BitVec.extractLsb'_toNat, Nat.shiftRight_eq_div_pow]
  omega

/-- The engine an `ENG` value names has that value (30_encoding.md R76). -/
theorem id_of_engineOfId {id : BitVec 4} {eng : Engine} (h : engineOfId id = some eng) : eng.id = id := by
  unfold engineOfId at h
  split at h; · rename_i hid; cases h; exact hid.symm
  split at h; · rename_i hid; cases h; exact hid.symm
  split at h; · rename_i hid; cases h; exact hid.symm
  split at h; · rename_i hid; cases h; exact hid.symm
  split at h; · rename_i hid; cases h; exact hid.symm
  cases h

theorem encode_initOf (eng : Engine) (c : BitVec 4) (a : InitOperands) : encode (initOf eng c a) = encodeInit eng c a := by
  cases eng <;> rfl

/-- A word that format Z decodes is the word of its command (30_encoding.md R71). -/
theorem encode_of_decodeZ {cw : Word} {op : BitVec 4} {make : BitVec 4 → Instr} {i : Instr} (hop : opField cw = op)
    (hmake : ∀ c, encode (make c) = encodeZ op c) (h : decodeZ cw make = .ok i) : encode i = cw := by
  unfold decodeZ at h
  split at h
  · rename_i hz
    rw [← Except.ok.inj h, hmake, ← hop, encodeZ_fields hz]
  · cases h

/-- A word that format B decodes is the word of its command (30_encoding.md R71). -/
theorem encode_of_decodeB {cw : Word} {op : BitVec 4} {make : BitVec 4 → Byte → Instr} {i : Instr} (hop : opField cw = op)
    (hmake : ∀ c b, encode (make c b) = encodeB op c b) (h : decodeB cw make = .ok i) : encode i = cw := by
  unfold decodeB at h
  split at h
  · rename_i hz
    rw [← Except.ok.inj h, hmake, ← hop, encodeB_fields hz]
  · cases h

/-- A word that format S decodes is the word of its command (30_encoding.md R71). -/
theorem encode_of_decodeS {cw : Word} {op : BitVec 4} {make : BitVec 4 → BitVec 4 → Instr} {i : Instr}
    (hop : opField cw = op) (hmake : ∀ c k, encode (make c k) = encodeS op c k) (h : decodeS cw make = .ok i) :
    encode i = cw := by
  unfold decodeS at h
  split at h
  · rename_i hz
    rw [← Except.ok.inj h, hmake, ← hop, encodeS_fields hz]
  · cases h

/-- A word that format I decodes is the word of its command (30_encoding.md R71, R77). -/
theorem encode_of_decodeInit {cw : Word} {i : Instr} (hop : opField cw = 1#4) (h : decodeInit cw = .ok i) :
    encode i = cw := by
  unfold decodeInit at h
  split at h; · cases h
  rename_i hz
  split at h; · cases h
  rename_i eng heng
  dsimp only at h
  split at h; · cases h
  split at h; · cases h
  rw [← Except.ok.inj h, encode_initOf, encodeInit_fields hop (by simpa using hz) (id_of_engineOfId heng)]

/-- A word is the word of the command it decodes to (30_encoding.md R70). -/
theorem encode_of_decode {cw : Word} {i : Instr} (h : decode cw = .ok i) : encode i = cw := by
  unfold decode at h
  dsimp only at h
  split at h; · rename_i hop; exact encode_of_decodeInit hop h
  split at h; · rename_i hop; exact encode_of_decodeZ hop (fun _ => rfl) h
  split at h; · rename_i hop; exact encode_of_decodeB hop (fun _ _ => rfl) h
  split at h; · rename_i hop; exact encode_of_decodeZ hop (fun _ => rfl) h
  split at h; · rename_i hop; exact encode_of_decodeS hop (fun _ _ => rfl) h
  split at h; · rename_i hop; exact encode_of_decodeS hop (fun _ _ => rfl) h
  split at h; · rename_i hop; exact encode_of_decodeZ hop (fun _ => rfl) h
  cases h

end Sys2Proof
end

section
/-!
SUPPORT. Commands and the memories (20_memory.md R52, R54, R62): a usage error has no effect, INIT reads the given lengths
only, and PROCESS checks its ranges.
-/

namespace Sys2Proof.Machine

/-- A command that reports class 2 did nothing but report a usage error (60_exceptions.md R179). -/
theorem CommandEffect.refused_of_usage {s t : State} {i : Instr} (he : CommandEffect s i t)
    (hclass : statusClass t.status = 2) : ∃ e, t = s.refusedWith i e := by
  cases he with
  | refused _ e => exact ⟨e, rfl⟩
  | initKilled | processLimit | retbyteLimit => simp [TerminalError.cls] at hclass
  | _ => simp at hclass

/-- Settles O16: a legal word is latched as it was written, because it is the word of its command. -/
theorem usageErrorsHaveNoEffect : Obligations.UsageErrorsHaveNoEffect := by
  unfold Obligations.UsageErrorsHaveNoEffect
  intro cw s t hrun hclass
  rcases runCommand_cases hrun with ⟨i, hdecode, he⟩ | ⟨-, rfl⟩
  · obtain ⟨e, rfl⟩ := he.refused_of_usage hclass
    rw [← encode_of_decode hdecode]
    rfl
  · rfl

/-! ### INIT -/

section
variable {s : State} {eng : Engine} {c : BitVec 4} {a : InitOperands}

theorem exec_initOf_of_no_context (h : ¬ s.hasContext c) :
    exec (initOf eng c a) s = .next (s.refusedWith (initOf eng c a) .badIndex) := by
  rw [exec_initOf]
  exact onContext_of_ge s _ _ h

theorem exec_initOf_of_dead (h : s.hasContext c) {e : TerminalError} (hx : s.context c = .dead e) :
    exec (initOf eng c a) s = .next (s.refusedWith (initOf eng c a) .deadCtx) := by
  rw [exec_initOf, initCommand, onContext_of_lt s _ _ h, hx]
  rfl

/-- INIT whose configuration check fails (40_contract.md R85). -/
theorem exec_initOf_of_check_some (h : s.hasContext c) (hx : (s.context c).Alive) {e : ConfigError}
    (hcheck : configCheck eng a = some e) :
    exec (initOf eng c a) s = .next (s.killedWith (initOf eng c a) c (.config e)) := by
  rw [exec_initOf, initCommand, onContext_of_lt s _ _ h]
  cases hctx : s.context c with
  | dead e => exact absurd hctx (hx e)
  | empty | ready => simp only [hcheck, raise_terminal_latch, ctxOf_initOf]

/-- INIT whose configuration check passes (40_contract.md R84). -/
theorem exec_initOf_of_check_none (h : s.hasContext c) (hx : (s.context c).Alive) (hcheck : configCheck eng a = none) :
    exec (initOf eng c a) s =
      .next ((s.setContext c (.ready (setupOf eng a s) (setupOf eng a s))).done (initOf eng c a) 0) := by
  rw [exec_initOf, initCommand, onContext_of_lt s _ _ h]
  cases hctx : s.context c with
  | dead e => exact absurd hctx (hx e)
  | empty | ready =>
    simp only [hcheck, setupOf_latch]
    rfl

end

@[simp] theorem done_ctx (s : State) (i : Instr) (r : Word) : (s.done i r).ctx = s.ctx := rfl

@[simp] theorem killedWith_ctx (s : State) (i : Instr) (c : BitVec 4) (e : TerminalError) :
    (s.killedWith i c e).ctx = s.ctx.set c.toNat (.dead e) := rfl

/-- Bytes read alike one by one are read alike together. -/
theorem readBytes_congr {s s' : State} {buf : Buffer} {base n : Nat}
    (h : ∀ k < n, s.readByte buf (base + k) = s'.readByte buf (base + k)) :
    s.readBytes buf base n = s'.readBytes buf base n :=
  List.map_congr_left fun k hk => h k (List.mem_range.mp hk)

/-- What INIT installs comes from the configuration, the key bytes and the IV bytes (20_memory.md R52). -/
theorem setupOf_congr {s s' : State} {eng : Engine} {a : InitOperands} (hcfg : s.cfg = s'.cfg)
    (hkey : s.keyBytes a = s'.keyBytes a) (hiv : s.ivBytes a = s'.ivBytes a) : setupOf eng a s = setupOf eng a s' := by
  cases eng <;> simp only [setupOf, setupLf128, setupLf256, setupCtr, setupSrp, setupBlk, hcfg, hkey, hiv]

/-- Settles O31: both runs take the same branch, which the configuration and the context decide, and install the same
CipherState. -/
theorem initReadsOnlyTheGivenLengths : Obligations.InitReadsOnlyTheGivenLengths := by
  unfold Obligations.InitReadsOnlyTheGivenLengths
  intro eng c a s s' t t' hcfg hctx hkey hiv hs hs'
  have hhas : s'.hasContext c ↔ s.hasContext c := by rw [State.hasContext, State.hasContext, hcfg]
  have hcontext : s'.context c = s.context c := by rw [State.context, State.context, hctx]
  have hsetup : setupOf eng a s' = setupOf eng a s :=
    setupOf_congr hcfg.symm (readBytes_congr fun k hk => by rw [Nat.zero_add, hkey k hk])
      (readBytes_congr fun k hk => by rw [Nat.zero_add, hiv k hk])
  rcases execInit_cases s eng c a with ⟨hc, h⟩ | ⟨hc, ⟨e, hx⟩, h⟩ | ⟨hc, hx, e, hcheck, h⟩ | ⟨hc, hx, hcheck, h⟩ <;>
    obtain rfl := Host.Outcome.next.inj (h.symm.trans hs)
  · rw [exec_initOf_of_no_context (mt hhas.mp hc)] at hs'
    cases hs'
    exact ⟨hctx, rfl, rfl⟩
  · rw [exec_initOf_of_dead (hhas.mpr hc) (hcontext.trans hx)] at hs'
    cases hs'
    exact ⟨hctx, rfl, rfl⟩
  · rw [exec_initOf_of_check_some (hhas.mpr hc) (hcontext ▸ hx) hcheck] at hs'
    cases hs'
    exact ⟨by simp [hctx], rfl, rfl⟩
  · rw [exec_initOf_of_check_none (hhas.mpr hc) (hcontext ▸ hx) hcheck, hsetup] at hs'
    cases hs'
    exact ⟨by simp [hctx], rfl, rfl⟩

/-! ### PROCESS -/

/-- The operands of a PROCESS on a context with CipherState `cur` are refused: a range does not fit (20_memory.md R54), or
a BLK length is no multiple of 16 (40_contract.md R91). -/
def State.ProcessShort (s : State) (cur : CipherState) : Prop :=
  s.cfg.ibufSize < s.arg0.toNat + s.arg1.toNat ∨ s.cfg.obufSize < s.arg2.toNat + s.arg1.toNat ∨
    (cur.engine = .blk ∧ s.arg1.toNat % 16 ≠ 0)

theorem processShort_iff {s : State} {cur : CipherState} :
    s.ProcessShort cur ↔ s.rangesFit = false ∨ (cur.engine = .blk ∧ s.len % 16 ≠ 0) := by
  rw [← Bool.not_eq_true, rangesFit_iff, not_and_or, Nat.not_le, Nat.not_le, or_assoc]
  rfl

/-- PROCESS on a READY context: BUF_SHORT for short operands, and no usage error for others (40_contract.md R89). -/
theorem execProcess_ready_cases {s : State} {c : BitVec 4} {cur rst : CipherState} (hc : s.hasContext c)
    (hx : s.context c = .ready cur rst) :
    (s.ProcessShort cur ∧ execProcess c s = .next (s.refusedWith (.process c) .bufShort)) ∨
    (¬ s.ProcessShort cur ∧ ∃ t, execProcess c s = .next t ∧ statusClass t.status ≠ 2) := by
  simp only [processShort_iff]
  rcases execProcess_cases s c with ⟨hno, -⟩ | ⟨-, ⟨e, hdead⟩, -⟩ | ⟨-, hempty, -⟩ | ⟨-, ⟨cur', rst', hx', hshort⟩, h⟩ |
    ⟨-, hfit, st, rst', hx', hlen, h⟩ | ⟨-, hfit, st, rst', hx', -, h⟩ | ⟨-, hfit, st, rst', ks, st', hx', -, h⟩
  · exact absurd hc hno
  · cases hx.symm.trans hdead
  · cases hx.symm.trans hempty
  · cases hx.symm.trans hx'
    exact .inl ⟨hshort, h⟩
  · cases hx.symm.trans hx'
    exact .inr ⟨by simp [hfit, hlen], _, h, by simp⟩
  · cases hx.symm.trans hx'
    exact .inr ⟨by simp [hfit, CipherState.engine, st.engine_ne_blk], _, h, by simp [TerminalError.cls]⟩
  · cases hx.symm.trans hx'
    exact .inr ⟨by simp [hfit, CipherState.engine, st.engine_ne_blk], _, h, by simp⟩

/-- Settles O34: short operands and a usage error go together. -/
theorem processBufShort : Obligations.ProcessBufShort := by
  unfold Obligations.ProcessBufShort
  intro s c cur rst hc hx
  rcases execProcess_ready_cases hc hx with ⟨hshort, h⟩ | ⟨hfits, u, h, hclass⟩
  · refine ⟨fun _ => h, fun t ht => ⟨fun _ => hshort, fun _ => ?_⟩⟩
    obtain rfl := Host.Outcome.next.inj (h.symm.trans ht)
    exact statusClass_refusedWith _ _ _
  · refine ⟨fun hshort => absurd hshort hfits, fun t ht => ⟨fun husage => ?_, fun hshort => absurd hshort hfits⟩⟩
    obtain rfl := Host.Outcome.next.inj (h.symm.trans ht)
    exact absurd husage hclass

end Sys2Proof.Machine
end

section
/-!
SUPPORT. What a host access does once it is known where it goes (20_memory.md R51, R55 to R61; logs 5, 8, 9, 10).
-/

namespace Sys2Proof.Machine

section
variable {s : State} {addr size : Nat}

theorem serve_read_of_at {x : Target} (h : locate s.cfg addr size = .at x) :
    serve (.read addr size) s = .next { s with busData := s.readTarget x size } := by
  simp only [serve, h]

theorem serve_write_of_at {x : Target} (h : locate s.cfg addr size = .at x) (hx : x ≠ .reg .cmd) (v : Word) :
    serve (.write addr size v) s = .next (s.writeTarget x size v) := by
  simp only [serve, h]

theorem serve_of_outside (h : locate s.cfg addr size = .outside) (v : Word) :
    serve (.read addr size) s = .fault .outsideRegion ∧ serve (.write addr size v) s = .fault .outsideRegion := by
  simp only [serve, h, and_self]

theorem serve_of_refused {r : Refusal} (h : locate s.cfg addr size = .refused r) (v : Word) :
    serve (.read addr size) s = .refused r ∧ serve (.write addr size v) s = .refused r := by
  simp only [serve, h, and_self]

/-- A read that is served reached something of the region. -/
theorem locate_of_serve_read {t : State} (h : serve (.read addr size) s = .next t) :
    ∃ x, locate s.cfg addr size = .at x ∧ t = { s with busData := s.readTarget x size } := by
  simp only [serve] at h
  split at h
  · rename_i x hx
    exact ⟨x, hx, (Host.Outcome.next.inj h).symm⟩
  · cases h
  · cases h

end

/-- No read looks at what the last one returned (log 5). -/
theorem readTarget_with_busData (s : State) (w : Word) (x : Target) (size : Nat) :
    { s with busData := w }.readTarget x size = s.readTarget x size := by
  cases x with
  | reg r => cases r <;> rfl
  | window buf i => cases buf <;> rfl
  | reserved => rfl

theorem serve_read_with_busData (s : State) (w : Word) (addr size : Nat) :
    serve (.read addr size) { s with busData := w } = serve (.read addr size) s := by
  simp only [serve, readTarget_with_busData]

/-- A 32-bit write to a register other than `CMD` (10_state.md R38 to R41). -/
theorem serve_write_reg (s : State) {off : Nat} {r : Reg} (hlt : off < 0x80) (h4 : off % 4 = 0) (hr : regAt off = some r)
    (hcmd : r ≠ .cmd) (v : Word) : serve (.write (s.cfg.coreBase + off) 4 v) s = .next (s.writeReg r v) :=
  serve_write_of_at (locate_reg s.cfg off r hlt h4 hr) (fun h => hcmd (Target.reg.inj h)) v

/-- A 32-bit write to `CTXSTAT[c]` is ignored (20_memory.md R51). -/
theorem serve_write_ctxstat (s : State) (c : BitVec 4) (v : Word) :
    serve (.write (s.cfg.coreBase + 0x020 + 4 * c.toNat) 4 v) s = .next s := by
  have hc := c.isLt
  rw [Nat.add_assoc]
  exact serve_write_reg s (by omega) (by omega) (regAt_ctxstat c) nofun v

/-- Settles O9: a read leaves everything that the next one looks at; each register write goes to the register at its
offset. -/
theorem hostAccessEffects : Obligations.HostAccessEffects := by
  unfold Obligations.HostAccessEffects
  refine ⟨fun s t addr size h => ?_, fun s v => ⟨?_, ?_, ?_, ?_, ?_, ?_, fun c hc => ?_⟩⟩
  · obtain ⟨x, -, rfl⟩ := locate_of_serve_read h
    exact ⟨rfl, (serve_read_with_busData s _ addr size).trans h⟩
  · simp only [serve, Nat.add_zero, locate_cmd]
  · exact serve_write_reg s (off := 0x004) (by decide) rfl rfl nofun v
  · exact serve_write_reg s (off := 0x008) (by decide) rfl rfl nofun v
  · exact serve_write_reg s (off := 0x00C) (by decide) rfl rfl nofun v
  · exact serve_write_reg s (off := 0x010) (by decide) rfl rfl nofun v
  · exact serve_write_reg s (off := 0x014) (by decide) rfl rfl nofun v
  · simpa [Nat.mod_eq_of_lt hc] using serve_write_ctxstat s (BitVec.ofNat 4 c) v

/-! ### Windows -/

/-- Bytes composed to a bus word, and their number (20_memory.md R57). -/
theorem toNat_composeLe {bs : List Byte} (h : bs.length ≤ 4) : (BitVec.ofNat 32 (composeLe bs)).toNat = composeLe bs := by
  have hlt : composeLe bs < 256 ^ 4 := (composeLe_lt bs).trans_le (Nat.pow_le_pow_right (by decide) h)
  rw [BitVec.toNat_ofNat, Nat.mod_eq_of_lt (hlt.trans_eq (by decide))]

/-- Byte `k` of a bus word composed of bytes (20_memory.md R57). -/
theorem extractLsb'_composeLe {bs : List Byte} (h : bs.length ≤ 4) {k : Nat} (hk : k < bs.length) :
    (BitVec.ofNat 32 (composeLe bs)).extractLsb' (8 * k) 8 = bs[k] := by
  apply BitVec.eq_of_toNat_eq
  rw [BitVec.extractLsb'_toNat, toNat_composeLe h, Nat.shiftRight_eq_div_pow]
  exact composeLe_byte bs k hk

theorem getElem_readBytes (s : State) (buf : Buffer) (base n k : Nat) (h : k < (s.readBytes buf base n).length) :
    (s.readBytes buf base n)[k] = s.readByte buf (base + k) := by
  simp only [State.readBytes, List.getElem_map, List.getElem_range]

theorem writeWindow_of_ne_obuf (s : State) {buf : Buffer} (h : buf ≠ .obuf) (i size : Nat) (v : Word) :
    s.writeWindow buf i size v = s.writeBytes buf i (splitLe v size) := by
  cases buf with
  | obuf => exact absurd rfl h
  | keybuf | ivbuf | ibuf => rfl

/-- Bytes written to a memory other than `OBUF` change the three input memories at most. -/
theorem writeBytes_frame (s : State) {buf : Buffer} (h : buf ≠ .obuf) (base : Nat) (bs : List Byte) :
    s.writeBytes buf base bs =
      { s with
        keybuf := (s.writeBytes buf base bs).keybuf
        ivbuf := (s.writeBytes buf base bs).ivbuf
        ibuf := (s.writeBytes buf base bs).ibuf } := by
  cases buf with
  | obuf => exact absurd rfl h
  | keybuf | ivbuf | ibuf => rfl

/-- Settles O11: the access reaches the bytes it covers; a read composes them, a write splits its value over them. -/
theorem windowAccessesAreLittleEndian : Obligations.WindowAccessesAreLittleEndian := by
  unfold Obligations.WindowAccessesAreLittleEndian
  intro s buf base i size hI hb hs hi hf
  have hloc := locate_window s.cfg buf base i size hI hb hs hi hf
  have hlen : (s.readBytes buf i size).length ≤ 4 := by rw [readBytes_length]; omega
  refine ⟨⟨_, serve_read_of_at hloc, fun k hk => ?_, ?_⟩, fun v hbuf => ?_, fun v hbuf => ?_⟩
  · exact (extractLsb'_composeLe hlen (by rwa [readBytes_length])).trans (getElem_readBytes s buf i size k _)
  · simpa only [State.readTarget, toNat_composeLe hlen, readBytes_length] using composeLe_lt (s.readBytes buf i size)
  · subst hbuf
    exact serve_write_of_at hloc nofun v
  · refine ⟨s.writeBytes buf i (splitLe v size), ?_, fun k hk => ?_, fun a ha => ?_, fun buf' hne a => ?_,
      writeBytes_frame s hbuf i _⟩
    · rw [serve_write_of_at hloc nofun, State.writeTarget, writeWindow_of_ne_obuf s hbuf]
    · rw [readByte_writeBytes_inside s buf i _ k (by rwa [splitLe_length]), splitLe_get]
    · exact readByte_writeBytes_outside s buf i _ a (by rwa [splitLe_length])
    · exact readByte_writeBytes_other s hne i _ a

/-! ### Unspecified accesses -/

/-- An access beyond CORE's region goes nowhere (20_memory.md R55, log 9). -/
theorem locate_beyond (cfg : Config) {off : Nat} (h : 0x30000 ≤ off) (size : Nat) :
    locate cfg (cfg.coreBase + off) size = .outside :=
  if_pos (.inr (Nat.add_le_add_left h _))

section
variable {cfg : Config} {off size : Nat}

/-- An offset within the region (20_memory.md R55). -/
theorem not_outside (h : off < 0x30000) :
    ¬ (cfg.coreBase + off < cfg.coreBase ∨ cfg.coreBase + regionSize ≤ cfg.coreBase + off) := by
  rw [regionSize_eq]; omega

theorem locate_unsupported_width (h : off < 0x30000) (hsize : ¬ (size = 1 ∨ size = 2 ∨ size = 4)) :
    locate cfg (cfg.coreBase + off) size = .refused .unsupportedWidth := by
  rw [locate, if_neg (not_outside h), if_pos hsize]

/-- Alignment is judged on the offset (log 10). -/
theorem locate_misaligned (h : off < 0x30000) (hsize : size = 1 ∨ size = 2 ∨ size = 4) (halign : off % size ≠ 0) :
    locate cfg (cfg.coreBase + off) size = .refused .misalignedAccess := by
  rw [locate, if_neg (not_outside h), if_neg (not_not.mpr hsize), Nat.add_sub_cancel_left, if_pos halign]

/-- An access of a supported width, aligned by its offset, is judged on what it reaches (20_memory.md R59, log 8). -/
theorem locate_of_target_error (h : off < 0x30000) (hsize : size = 1 ∨ size = 2 ∨ size = 4) (halign : off % size = 0)
    {r : Refusal} (htarget : targetAt cfg off size = .error r) : locate cfg (cfg.coreBase + off) size = .refused r := by
  rw [locate, if_neg (not_outside h), if_neg (not_not.mpr hsize), Nat.add_sub_cancel_left, if_neg (not_not.mpr halign),
    htarget]

/-- The offsets that hold a register (10_state.md R38 to R41, R44). -/
theorem exists_regAt (hreg : off < 0x18 ∨ (0x20 ≤ off ∧ off < 0x60)) : ∃ r, regAt (off - off % 4) = some r := by
  rw [← Option.isSome_iff_exists, regAt]
  repeat (split; · rfl)
  exfalso
  omega

/-- An access narrower than 32 bits of a register is refused (20_memory.md R59, log 8). -/
theorem targetAt_narrow_register (hreg : off < 0x18 ∨ (0x20 ≤ off ∧ off < 0x60)) (hsize : size ≠ 4) :
    targetAt cfg off size = .error .narrowRegisterAccess := by
  have hbuf : bufferAt cfg off = none := by
    rw [bufferAt_eq]; repeat (rw [if_neg (by omega)])
  obtain ⟨r, hr⟩ := exists_regAt hreg
  simp only [targetAt, hbuf, hr, if_neg hsize]

/-- An access across the end of a window is refused (20_memory.md R59, log 8). -/
theorem targetAt_straddling {buf : Buffer} (hbuf : bufferAt cfg off = some buf)
    (hend : windowBase buf + cfg.size buf < off + size) : targetAt cfg off size = .error .straddlesWindow := by
  simp only [targetAt, hbuf, if_neg (Nat.not_le.mpr hend)]

theorem bufferAt_ibuf (hI : cfg.InRange) (hlo : 0x10000 ≤ off) (hhi : off < 0x10000 + cfg.ibufSize) :
    bufferAt cfg off = some .ibuf := by
  have hkey := hI.keybuf_eq
  have hiv := hI.ivbuf_eq
  rw [bufferAt_eq, if_neg (by omega), if_neg (by omega), if_pos (by omega)]

theorem bufferAt_obuf (hI : cfg.InRange) (hlo : 0x20000 ≤ off) (hhi : off < 0x20000 + cfg.obufSize) :
    bufferAt cfg off = some .obuf := by
  have hkey := hI.keybuf_eq
  have hiv := hI.ivbuf_eq
  have hibuf := hI.ibuf_le
  rw [bufferAt_eq, if_neg (by omega), if_neg (by omega), if_neg (by omega), if_pos (by omega)]

end

/-- Settles O12: where the access goes decides how it stops, for a read as for a write. -/
theorem unspecifiedAccessesStop : Obligations.UnspecifiedAccessesStop := by
  unfold Obligations.UnspecifiedAccessesStop
  intro s off size v
  refine ⟨fun addr h => serve_of_outside (locate_below h size) v, fun h => serve_of_outside (locate_beyond s.cfg h size) v,
    fun h hsize => serve_of_refused (locate_unsupported_width h hsize) v,
    fun h hsize halign => serve_of_refused (locate_misaligned h (.inr hsize) halign) v,
    fun hreg hsize halign => serve_of_refused ?_ v, fun hI hsize halign hwindow => serve_of_refused ?_ v⟩
  · exact locate_of_target_error (by omega) (by omega) halign (targetAt_narrow_register hreg (by omega))
  · obtain ⟨base, bytes, hbase, hlo, hhi, hend⟩ := hwindow
    have hibuf := hI.ibuf_le
    have hobuf := hI.obuf_le
    rcases hbase with hbase | hbase <;> cases hbase
    · exact locate_of_target_error (by omega) (.inr hsize) halign (targetAt_straddling (bufferAt_ibuf hI hlo hhi) hend)
    · exact locate_of_target_error (by omega) (.inr hsize) halign (targetAt_straddling (bufferAt_obuf hI hlo hhi) hend)

end Sys2Proof.Machine
end

section
/-!
SUPPORT. The decoder, branch by branch (30_encoding.md R71, R75, R79): the format each `OP` is decoded in, and when a
format accepts a word.
-/

namespace Sys2Proof

/-! ### The formats -/

/-- Format Z accepts the words whose bits 23:0 are 0 (30_encoding.md R71). -/
theorem decodeZ_eq_ok_iff {cw : Word} {make : BitVec 4 → Instr} {i : Instr} :
    decodeZ cw make = .ok i ↔ cw.extractLsb' 0 24 = 0#24 ∧ make (ctxField cw) = i := by
  unfold decodeZ
  split <;> simp [*]

/-- Format B accepts the words whose bits 23:8 are 0 (30_encoding.md R71). -/
theorem decodeB_eq_ok_iff {cw : Word} {make : BitVec 4 → Byte → Instr} {i : Instr} :
    decodeB cw make = .ok i ↔ cw.extractLsb' 8 16 = 0#16 ∧ make (ctxField cw) (cw.extractLsb' 0 8) = i := by
  unfold decodeB
  split <;> simp [*]

/-- Format S accepts the words whose bits 19:0 are 0 (30_encoding.md R71). -/
theorem decodeS_eq_ok_iff {cw : Word} {make : BitVec 4 → BitVec 4 → Instr} {i : Instr} :
    decodeS cw make = .ok i ↔ cw.extractLsb' 0 20 = 0#20 ∧ make (ctxField cw) (engField cw) = i := by
  unfold decodeS
  split <;> simp [*]

/-- 30_encoding.md R73, as the two conditions the decoder rejects. -/
theorem InitOperands.wellFormed_iff (a : InitOperands) :
    a.wellFormed = true ↔ ¬ (a.hasKey = false ∧ a.klen ≠ 0#8) ∧ ¬ (a.hasIv = false ∧ a.ivlen ≠ 0#8) := by
  simp [InitOperands.wellFormed, Classical.or_iff_not_imp_left]

/-- Format I accepts the words with bit 16 0, an implemented engine and consistent lengths (30_encoding.md R71, R73, R77). -/
theorem decodeInit_eq_ok_iff {cw : Word} {i : Instr} :
    decodeInit cw = .ok i ↔ cw.getLsbD 16 = false ∧
      ∃ eng, engineOfId (engField cw) = some eng ∧ (initFields cw).wellFormed = true ∧
        initOf eng (ctxField cw) (initFields cw) = i := by
  rw [InitOperands.wellFormed_iff]
  unfold decodeInit
  cases cw.getLsbD 16 with
  | true => simp
  | false =>
    cases engineOfId (engField cw) with
    | none => simp
    | some eng =>
      rw [if_neg Bool.false_ne_true]
      dsimp only
      split
      · simp [*]
      · split <;> simp [*]

/-! ### The operations -/

section
variable {cw : Word}

theorem decode_of_op_init (h : opField cw = 1) : decode cw = decodeInit cw := by simp [decode, h]
theorem decode_of_op_process (h : opField cw = 2) : decode cw = decodeZ cw .process := by simp [decode, h]
theorem decode_of_op_retbyte (h : opField cw = 3) : decode cw = decodeB cw .retbyte := by simp [decode, h]
theorem decode_of_op_reset (h : opField cw = 4) : decode cw = decodeZ cw .reset := by simp [decode, h]
theorem decode_of_op_snapshot (h : opField cw = 5) : decode cw = decodeS cw .snapshot := by simp [decode, h]
theorem decode_of_op_restore (h : opField cw = 6) : decode cw = decodeS cw .restore := by simp [decode, h]
theorem decode_of_op_drop (h : opField cw = 7) : decode cw = decodeZ cw .drop := by simp [decode, h]

/-- `OP` 0 and 8..15 are reserved (30_encoding.md R75). -/
theorem decode_of_op_reserved (h : opField cw = 0 ∨ 8 ≤ (opField cw).toNat) : decode cw = .error .reservedOp := by
  have hne (n : BitVec 4) (h0 : n ≠ 0) (h8 : n.toNat < 8) : opField cw ≠ n := by
    rintro rfl
    exact h.elim h0 (Nat.not_le.mpr h8)
  simp [decode, hne]

end

/-- The sixteen `OP` values (30_encoding.md R75). -/
theorem op_cases (op : BitVec 4) :
    op = 1 ∨ op = 2 ∨ op = 3 ∨ op = 4 ∨ op = 5 ∨ op = 6 ∨ op = 7 ∨ (op = 0 ∨ 8 ≤ op.toNat) := by
  revert op
  decide

theorem wellFormed_initOf (eng : Engine) (c : BitVec 4) (a : InitOperands) :
    (initOf eng c a).wellFormed = a.wellFormed := by
  cases eng <;> rfl

/-- The decoder gives well-formed commands only (30_encoding.md R73). -/
theorem wellFormed_of_decode {cw : Word} {i : Instr} (h : decode cw = .ok i) : i.wellFormed = true := by
  rcases op_cases (opField cw) with hop | hop | hop | hop | hop | hop | hop | hop
  · rw [decode_of_op_init hop, decodeInit_eq_ok_iff] at h
    obtain ⟨-, eng, -, hwf, rfl⟩ := h
    rwa [wellFormed_initOf]
  · rw [decode_of_op_process hop, decodeZ_eq_ok_iff] at h
    exact h.2 ▸ rfl
  · rw [decode_of_op_retbyte hop, decodeB_eq_ok_iff] at h
    exact h.2 ▸ rfl
  · rw [decode_of_op_reset hop, decodeZ_eq_ok_iff] at h
    exact h.2 ▸ rfl
  · rw [decode_of_op_snapshot hop, decodeS_eq_ok_iff] at h
    exact h.2 ▸ rfl
  · rw [decode_of_op_restore hop, decodeS_eq_ok_iff] at h
    exact h.2 ▸ rfl
  · rw [decode_of_op_drop hop, decodeZ_eq_ok_iff] at h
    exact h.2 ▸ rfl
  · cases (decode_of_op_reserved hop).symm.trans h

end Sys2Proof
end

section
/-!
SUPPORT. The round trips of decoder and encoder (30_encoding.md R70 to R76): the fields of an encoded command are its
operands, so the decoder reads them back.
-/

namespace Sys2Proof

/-! ### The fields of an encoded command -/

theorem mustBeZero_encodeZ (op c : BitVec 4) : (encodeZ op c).extractLsb' 0 24 = 0#24 :=
  BitVec.extractLsb'_append_eq_right

theorem mustBeZero_encodeB (op c : BitVec 4) (b : Byte) : (encodeB op c b).extractLsb' 8 16 = 0#16 := by
  apply BitVec.eq_of_toNat_eq
  simp only [encodeB, Machine.toNat_append_eq_add, BitVec.extractLsb'_toNat, Nat.shiftRight_eq_div_pow, BitVec.toNat_ofNat]
  omega

theorem byte_encodeB (op c : BitVec 4) (b : Byte) : (encodeB op c b).extractLsb' 0 8 = b :=
  BitVec.extractLsb'_append_eq_right

theorem mustBeZero_encodeS (op c k : BitVec 4) : (encodeS op c k).extractLsb' 0 20 = 0#20 :=
  BitVec.extractLsb'_append_eq_right

/-- `SLOT` of a format S word. -/
theorem engField_encodeS (op c k : BitVec 4) : engField (encodeS op c k) = k := by
  apply eq_of_four_bits <;> simp only [engField, BitVec.getLsbD_extractLsb', getLsbD_encodeS] <;> rfl

/-- `ENG` of a format I word. -/
theorem engField_encodeInit (eng : Engine) (c : BitVec 4) (a : InitOperands) : engField (encodeInit eng c a) = eng.id := by
  apply eq_of_four_bits <;> simp only [engField, BitVec.getLsbD_extractLsb', getLsbD_encodeInit] <;> rfl

theorem mustBeZero_encodeInit (eng : Engine) (c : BitVec 4) (a : InitOperands) :
    (encodeInit eng c a).getLsbD 16 = false := by
  rw [getLsbD_encodeInit]
  rfl

/-- The operand fields of a format I word are the operands, whatever they are. -/
theorem initFields_encodeInit (eng : Engine) (c : BitVec 4) (a : InitOperands) : initFields (encodeInit eng c a) = a := by
  have hdir : (encodeInit eng c a).getLsbD 19 = a.dir := by rw [getLsbD_encodeInit]; simp
  have hkey : (encodeInit eng c a).getLsbD 18 = a.hasKey := by rw [getLsbD_encodeInit]; simp
  have hiv : (encodeInit eng c a).getLsbD 17 = a.hasIv := by rw [getLsbD_encodeInit]; simp
  have hklen : (encodeInit eng c a).extractLsb' 8 8 = a.klen := by
    apply BitVec.eq_of_getLsbD_eq
    intro j hj
    simp [getLsbD_encodeInit, hj]
  have hivlen : (encodeInit eng c a).extractLsb' 0 8 = a.ivlen := BitVec.extractLsb'_append_eq_right
  simp only [initFields, hdir, hkey, hiv, hklen, hivlen]

/-- Every engine is the one its `ENG` value names (30_encoding.md R76). -/
theorem engineOfId_id (eng : Engine) : engineOfId eng.id = some eng := by
  cases eng <;> rfl

/-! ### The round trips -/

/-- The decoder reads back INIT of every engine (30_encoding.md R71, R73, R76). -/
theorem decode_encode_initOf (eng : Engine) (c : BitVec 4) {a : InitOperands} (h : a.wellFormed = true) :
    decode (encode (initOf eng c a)) = .ok (initOf eng c a) := by
  have hop : opField (encode (initOf eng c a)) = 1 := by rw [opField_encode]; cases eng <;> rfl
  have hctx := (ctxField_encode (initOf eng c a)).trans (ctxOf_initOf eng c a)
  rw [decode_of_op_init hop, decodeInit_eq_ok_iff, hctx, encode_initOf, engField_encodeInit, engineOfId_id,
    initFields_encodeInit]
  exact ⟨mustBeZero_encodeInit eng c a, eng, rfl, h, rfl⟩

/-- The decoder reads back every well-formed command (30_encoding.md R71, R75, R76). -/
theorem decode_encode {i : Instr} (h : i.wellFormed = true) : decode (encode i) = .ok i := by
  have hop := opField_encode i
  have hctx := ctxField_encode i
  cases i with
  | initLf128 c a => exact decode_encode_initOf .lf128 c h
  | initLf256 c a => exact decode_encode_initOf .lf256 c h
  | initCtr c a => exact decode_encode_initOf .ctr c h
  | initSrp c a => exact decode_encode_initOf .srp c h
  | initBlk c a => exact decode_encode_initOf .blk c h
  | process c =>
    rw [decode_of_op_process hop, decodeZ_eq_ok_iff, hctx]
    exact ⟨mustBeZero_encodeZ 2 c, rfl⟩
  | retbyte c b =>
    rw [decode_of_op_retbyte hop, decodeB_eq_ok_iff, hctx]
    exact ⟨mustBeZero_encodeB 3 c b, congrArg _ (byte_encodeB 3 c b)⟩
  | reset c =>
    rw [decode_of_op_reset hop, decodeZ_eq_ok_iff, hctx]
    exact ⟨mustBeZero_encodeZ 4 c, rfl⟩
  | snapshot c k =>
    rw [decode_of_op_snapshot hop, decodeS_eq_ok_iff, hctx]
    exact ⟨mustBeZero_encodeS 5 c k, congrArg _ (engField_encodeS 5 c k)⟩
  | restore c k =>
    rw [decode_of_op_restore hop, decodeS_eq_ok_iff, hctx]
    exact ⟨mustBeZero_encodeS 6 c k, congrArg _ (engField_encodeS 6 c k)⟩
  | drop c =>
    rw [decode_of_op_drop hop, decodeZ_eq_ok_iff, hctx]
    exact ⟨mustBeZero_encodeZ 7 c, rfl⟩

/-- Decoding is exactly the inverse of encoding on the well-formed commands (30_encoding.md R70, R71, R73). -/
theorem decode_eq_ok_iff {cw : Word} {i : Instr} : decode cw = .ok i ↔ i.wellFormed = true ∧ encode i = cw :=
  ⟨fun h => ⟨wellFormed_of_decode h, encode_of_decode h⟩, fun ⟨hwf, hcw⟩ => hcw ▸ decode_encode hwf⟩

/-- Settles O1, command by command: `OP` selects the format, and the fields of the word are the operands. -/
theorem decodeOfEncode : Obligations.DecodeOfEncode := by
  unfold Obligations.DecodeOfEncode
  exact fun _ => decode_encode

/-- Settles O2. -/
theorem encodeOfDecode : Obligations.EncodeOfDecode := by
  unfold Obligations.EncodeOfDecode
  exact fun _ _ => decode_eq_ok_iff.mp

/-- Settles O5: each word is the encoding of the command it is said to stand for. -/
theorem specExampleWordsDecode : Obligations.SpecExampleWordsDecode := by
  unfold Obligations.SpecExampleWordsDecode
  simp only [decode_eq_ok_iff]
  decide

end Sys2Proof
end

section
/-!
SUPPORT. Which words are legal (30_encoding.md R77 to R79), said of the fields of the word, of the rows of the opcode table
and of the decoder.
-/

namespace Sys2Proof

/-- What 30_encoding.md R71, R73, R75 and R77 ask of the fields of a legal command word. -/
def FieldsLegal (cw : Word) : Prop :=
  (opField cw = 1 ∧ cw.getLsbD 16 = false ∧ (engineOfId (engField cw)).isSome ∧ initLengthsConsistent cw = true) ∨
  ((opField cw = 2 ∨ opField cw = 4 ∨ opField cw = 7) ∧ cw.extractLsb' 0 24 = 0#24) ∨
  (opField cw = 3 ∧ cw.extractLsb' 8 16 = 0#16) ∨
  ((opField cw = 5 ∨ opField cw = 6) ∧ cw.extractLsb' 0 20 = 0#20)

/-- The decoder accepts the words with legal fields (30_encoding.md R79). -/
theorem exists_decode_eq_ok_iff (cw : Word) : (∃ i, decode cw = .ok i) ↔ FieldsLegal cw := by
  rcases op_cases (opField cw) with hop | hop | hop | hop | hop | hop | hop | hop
  · simp [decode_of_op_init hop, decodeInit_eq_ok_iff, FieldsLegal, hop, initLengthsConsistent, Option.isSome_iff_exists]
  · simp [decode_of_op_process hop, decodeZ_eq_ok_iff, FieldsLegal, hop]
  · simp [decode_of_op_retbyte hop, decodeB_eq_ok_iff, FieldsLegal, hop]
  · simp [decode_of_op_reset hop, decodeZ_eq_ok_iff, FieldsLegal, hop]
  · simp [decode_of_op_snapshot hop, decodeS_eq_ok_iff, FieldsLegal, hop]
  · simp [decode_of_op_restore hop, decodeS_eq_ok_iff, FieldsLegal, hop]
  · simp [decode_of_op_drop hop, decodeZ_eq_ok_iff, FieldsLegal, hop]
  · rw [decode_of_op_reserved hop, FieldsLegal]
    rcases hop with hop | hop
    · simp [hop]
    · have hne (n : BitVec 4) (h8 : n.toNat < 8) : opField cw ≠ n := by
        rintro rfl
        omega
      simp [hne]

/-! ### Rows of the opcode table -/

section
variable {r : OpcodeRow} {cw : Word}

/-- A field that the mask covers has the value the row gives it (30_encoding.md R78). -/
theorem field_of_matches (h : r.matches cw = true) {start len : Nat}
    (hmask : r.mask.extractLsb' start len = BitVec.allOnes len) :
    cw.extractLsb' start len = r.pattern.extractLsb' start len := by
  rw [← beq_iff_eq.mp h, BitVec.extractLsb'_and, hmask, BitVec.and_allOnes]

/-- A bit that the mask covers has the value the row gives it (30_encoding.md R78). -/
theorem bit_of_matches (h : r.matches cw = true) {j : Nat} (hmask : r.mask.getLsbD j = true) :
    cw.getLsbD j = r.pattern.getLsbD j := by
  rw [← beq_iff_eq.mp h, BitVec.getLsbD_and, hmask, Bool.and_true]

/-- The mask of every row covers `OP`, and each field its format fixes (30_encoding.md R71, R78). -/
theorem opcodeRows_masks : ∀ r ∈ opcodeRows, r.mask.extractLsb' 28 4 = BitVec.allOnes 4 ∧
    (opField r.pattern = 1 → r.mask.getLsbD 16 = true ∧ r.mask.extractLsb' 20 4 = BitVec.allOnes 4) ∧
    (opField r.pattern = 2 ∨ opField r.pattern = 4 ∨ opField r.pattern = 7 →
      r.mask.extractLsb' 0 24 = BitVec.allOnes 24) ∧
    (opField r.pattern = 3 → r.mask.extractLsb' 8 16 = BitVec.allOnes 16) ∧
    (opField r.pattern = 5 ∨ opField r.pattern = 6 → r.mask.extractLsb' 0 20 = BitVec.allOnes 20) := by
  decide

/-- The pattern of every row is itself a legal word (30_encoding.md R78). -/
theorem opcodeRows_patterns : ∀ r ∈ opcodeRows, FieldsLegal r.pattern := by
  unfold FieldsLegal
  decide

/-- A word has the `OP` of a row it matches (30_encoding.md R78). -/
theorem opField_of_matches (hmem : r ∈ opcodeRows) (h : r.matches cw = true) : opField cw = opField r.pattern :=
  field_of_matches h (opcodeRows_masks r hmem).1

/-- A word that matches a row has legal fields when R73 holds for an INIT row: every other field the rules speak of is the
row's (30_encoding.md R78). -/
theorem fieldsLegal_of_matches (hmem : r ∈ opcodeRows) (h : r.matches cw = true)
    (hlengths : opField r.pattern = 1 → initLengthsConsistent cw = true) : FieldsLegal cw := by
  obtain ⟨-, hinit, hz, hb, hs⟩ := opcodeRows_masks r hmem
  rw [FieldsLegal, opField_of_matches hmem h]
  rcases opcodeRows_patterns r hmem with ⟨hop, hbit, heng, -⟩ | ⟨hop, hzero⟩ | ⟨hop, hzero⟩ | ⟨hop, hzero⟩
  · have heq : engField cw = engField r.pattern := field_of_matches h (hinit hop).2
    exact .inl ⟨hop, (bit_of_matches h (hinit hop).1).trans hbit, heq ▸ heng, hlengths hop⟩
  · exact .inr (.inl ⟨hop, (field_of_matches h (hz hop)).trans hzero⟩)
  · exact .inr (.inr (.inl ⟨hop, (field_of_matches h (hb hop)).trans hzero⟩))
  · exact .inr (.inr (.inr ⟨hop, (field_of_matches h (hs hop)).trans hzero⟩))

end

/-- The word of every command matches the row of the command (30_encoding.md R78). -/
theorem opcodeRow_matches_encode (i : Instr) : (opcodeRow i).matches (encode i) = true := by
  cases i with
  | initLf128 c a => exact Laws.EncodesToItsRow.initLf128 c a
  | initLf256 c a => exact Laws.EncodesToItsRow.initLf256 c a
  | initCtr c a => exact Laws.EncodesToItsRow.initCtr c a
  | initSrp c a => exact Laws.EncodesToItsRow.initSrp c a
  | initBlk c a => exact Laws.EncodesToItsRow.initBlk c a
  | process c => exact Laws.EncodesToItsRow.process c
  | retbyte c b => exact Laws.EncodesToItsRow.retbyte c b
  | reset c => exact Laws.EncodesToItsRow.reset c
  | snapshot c k => exact Laws.EncodesToItsRow.snapshot c k
  | restore c k => exact Laws.EncodesToItsRow.restore c k
  | drop c => exact Laws.EncodesToItsRow.drop c

/-- A word matches the row of the command it decodes to (30_encoding.md R78). -/
theorem opcodeRow_matches_of_decode {cw : Word} {i : Instr} (h : decode cw = .ok i) : (opcodeRow i).matches cw = true :=
  encode_of_decode h ▸ opcodeRow_matches_encode i

theorem opcodeRow_mem (i : Instr) : opcodeRow i ∈ opcodeRows := by
  cases i <;> simp [opcodeRow, opcodeRows]

/-- Two rows that agree wherever both masks look are the same row (30_encoding.md R78). -/
theorem opcodeRows_disjoint :
    ∀ r₁ ∈ opcodeRows, ∀ r₂ ∈ opcodeRows, r₁.pattern &&& r₂.mask = r₂.pattern &&& r₁.mask → r₁ = r₂ := by
  decide

/-- No word matches two rows (30_encoding.md R78). -/
theorem eq_of_matches {cw : Word} {r₁ r₂ : OpcodeRow} (hmem₁ : r₁ ∈ opcodeRows) (hmem₂ : r₂ ∈ opcodeRows)
    (h₁ : r₁.matches cw = true) (h₂ : r₂.matches cw = true) : r₁ = r₂ := by
  apply opcodeRows_disjoint r₁ hmem₁ r₂ hmem₂
  calc r₁.pattern &&& r₂.mask
    _ = cw &&& r₁.mask &&& r₂.mask := by rw [← beq_iff_eq.mp h₁]
    _ = cw &&& r₂.mask &&& r₁.mask := by rw [BitVec.and_assoc, BitVec.and_comm r₁.mask, BitVec.and_assoc]
    _ = r₂.pattern &&& r₁.mask := by rw [← beq_iff_eq.mp h₂]

/-- An INIT word with legal fields has consistent lengths (30_encoding.md R73). -/
theorem FieldsLegal.lengths_consistent {cw : Word} (h : FieldsLegal cw) (hop : opField cw = 1) :
    initLengthsConsistent cw = true := by
  rcases h with ⟨-, -, -, hlengths⟩ | ⟨hop', -⟩ | ⟨hop', -⟩ | ⟨hop', -⟩
  · exact hlengths
  · simp [hop] at hop'
  · simp [hop] at hop'
  · simp [hop] at hop'

/-- Settles O3: the word of a command matches the command's row; conversely a row fixes every field that R79 speaks of but
the lengths. -/
theorem legalWordsMatchOneRow : Obligations.LegalWordsMatchOneRow := by
  unfold Obligations.LegalWordsMatchOneRow
  refine ⟨rfl, opcodeRow_mem, fun cw => ⟨?_, ?_⟩, fun _ _ => opcodeRow_matches_of_decode,
    fun _ _ hmem₁ _ hmem₂ => eq_of_matches hmem₁ hmem₂⟩
  · rintro ⟨i, hi⟩
    have hmatch := opcodeRow_matches_of_decode hi
    have hlegal := (exists_decode_eq_ok_iff cw).mp ⟨i, hi⟩
    exact ⟨opcodeRow i, opcodeRow_mem i, hmatch, fun hop =>
      hlegal.lengths_consistent ((opField_of_matches (opcodeRow_mem i) hmatch).trans hop)⟩
  · rintro ⟨r, hmem, hmatch, hlengths⟩
    exact (exists_decode_eq_ok_iff cw).mpr (fieldsLegal_of_matches hmem hmatch hlengths)

/-! ### Illegal words -/

/-- The decoder rejects a word exactly when its fields are not legal. -/
theorem exists_decode_eq_error_iff (cw : Word) : (∃ e, decode cw = .error e) ↔ ¬ FieldsLegal cw := by
  rw [← exists_decode_eq_ok_iff]
  cases decode cw <;> simp

/-- The reserved `ENG` values (30_encoding.md R76, R77). -/
theorem engineOfId_eq_none_iff (id : BitVec 4) :
    engineOfId id = none ↔ id = 0 ∨ id = 5 ∨ id = 6 ∨ id = 8 ∨ 9 ≤ id.toNat := by
  revert id
  decide

/-- How an INIT word breaks R73. -/
theorem not_initLengthsConsistent_iff (cw : Word) : ¬ initLengthsConsistent cw = true ↔
    (cw.getLsbD 18 = false ∧ cw.extractLsb' 8 8 ≠ 0#8) ∨ (cw.getLsbD 17 = false ∧ cw.extractLsb' 0 8 ≠ 0#8) := by
  rw [initLengthsConsistent, InitOperands.wellFormed_iff]
  exact Classical.not_and_iff_not_or_not.trans (or_congr Classical.not_not Classical.not_not)

/-- The illegal words, as 30_encoding.md R79 lists them: for each `OP`, the fields its format fixes. -/
theorem not_fieldsLegal_iff (cw : Word) : ¬ FieldsLegal cw ↔
    opField cw = 0 ∨ 8 ≤ (opField cw).toNat ∨
    (opField cw = 1 ∧ cw.getLsbD 16 = true) ∨
    ((opField cw = 2 ∨ opField cw = 4 ∨ opField cw = 7) ∧ cw.extractLsb' 0 24 ≠ 0) ∨
    (opField cw = 3 ∧ cw.extractLsb' 8 16 ≠ 0) ∨
    ((opField cw = 5 ∨ opField cw = 6) ∧ cw.extractLsb' 0 20 ≠ 0) ∨
    (opField cw = 1 ∧ (engField cw = 0 ∨ engField cw = 5 ∨ engField cw = 6 ∨ engField cw = 8 ∨ 9 ≤ (engField cw).toNat)) ∨
    (opField cw = 1 ∧ cw.getLsbD 18 = false ∧ cw.extractLsb' 8 8 ≠ 0) ∨
    (opField cw = 1 ∧ cw.getLsbD 17 = false ∧ cw.extractLsb' 0 8 ≠ 0) := by
  rcases op_cases (opField cw) with hop | hop | hop | hop | hop | hop | hop | hop
  · have hlegal : FieldsLegal cw ↔
        cw.getLsbD 16 = false ∧ (engineOfId (engField cw)).isSome ∧ initLengthsConsistent cw = true := by
      simp [FieldsLegal, hop]
    rw [hlegal, ← engineOfId_eq_none_iff, not_and_or, not_and_or, not_initLengthsConsistent_iff, Bool.not_eq_false,
      Option.not_isSome_iff_eq_none]
    simp [hop]
  · simp [FieldsLegal, hop]
  · simp [FieldsLegal, hop]
  · simp [FieldsLegal, hop]
  · simp [FieldsLegal, hop]
  · simp [FieldsLegal, hop]
  · simp [FieldsLegal, hop]
  · simp only [← or_assoc, hop, true_or, iff_true]
    rw [← exists_decode_eq_error_iff]
    exact ⟨_, decode_of_op_reserved hop⟩

/-- Settles O4: an illegal word is rejected by the decoder, and a rejected word raises the one error. -/
theorem illegalWordsRaiseIllegalCmd : Obligations.IllegalWordsRaiseIllegalCmd := by
  unfold Obligations.IllegalWordsRaiseIllegalCmd
  intro cw op eng
  refine ⟨(exists_decode_eq_error_iff cw).trans (not_fieldsLegal_iff cw), fun e he s => ?_⟩
  rw [Machine.runCommand, he]
  rfl

end Sys2Proof
end

section
/-!
SUPPORT. The commands nearest to a NOP (30_encoding.md R80).
-/

namespace Sys2Proof.Machine

/-- PROCESS of no bytes on a READY context (20_memory.md R54): nothing is read, taken from the keystream or stored. -/
theorem execProcess_zero {s : State} {c : BitVec 4} {cur rst : CipherState} (hc : s.hasContext c)
    (hx : s.context c = .ready cur rst) (hlen : s.arg1 = 0) (hin : s.arg0.toNat ≤ s.cfg.ibufSize)
    (hout : s.arg2.toNat ≤ s.cfg.obufSize) : execProcess c s = .next (s.done (.process c) 0) := by
  have hlen0 : s.len = 0 := congrArg BitVec.toNat hlen
  have hfit : s.rangesFit = true := (rangesFit_iff s).mpr (by rw [hlen0]; exact ⟨hin, hout⟩)
  rcases execProcess_cases s c with ⟨hno, -⟩ | ⟨-, ⟨e, hdead⟩, -⟩ | ⟨-, hempty, -⟩ | ⟨-, ⟨cur', rst', -, hshort⟩, -⟩ |
    ⟨-, -, st, rst', -, -, h⟩ | ⟨-, -, st, rst', -, htake, -⟩ | ⟨-, -, st, rst', ks, st', hx', htake, h⟩
  · exact absurd hc hno
  · cases hx.symm.trans hdead
  · cases hx.symm.trans hempty
  · simp [hfit, hlen0] at hshort
  · have hbytes : blkOutput s st = [] := by simp [blkOutput, hlen0]
    rw [h, hbytes, writeBytes_nil, hlen]
  · simp [hlen0] at htake
  · rw [hlen0, takeBytes_zero] at htake
    cases htake
    have hbytes : xorBytes s.inputBytes [] = [] := List.zipWith_nil_right
    rw [h, hbytes, writeBytes_nil, ← hx', setContext_context, hlen]

/-- DROP on an EMPTY context (40_contract.md R98). -/
theorem execDrop_empty {s : State} {c : BitVec 4} (hc : s.hasContext c) (hx : s.context c = .empty) :
    execDrop c s = .next (s.done (.drop c) 0) := by
  rcases execDrop_cases s c with ⟨hno, -⟩ | ⟨-, h⟩
  · exact absurd hc hno
  · rw [h, ← hx, setContext_context]

/-- Settles O35. -/
theorem nearestThingsToNop : Obligations.NearestThingsToNop := by
  unfold Obligations.NearestThingsToNop
  exact ⟨fun _ _ _ _ hc hx => execProcess_zero hc hx, fun _ _ hc hx => execDrop_empty hc hx⟩

end Sys2Proof.Machine
end

section
/-!
SUPPORT. What a command answers, cause by cause: the checks of 40_contract.md R82 and R83 in their order, and the errors that
rest on the engine or the slot.
-/

namespace Sys2Proof.Machine

section
variable {s : State} {i : Instr} {c k : BitVec 4}

/-- Every command starts with the common part, on the context it names (40_contract.md R82). -/
theorem exec_eq_onContext (i : Instr) (s : State) : ∃ body, exec i s = onContext i i.ctxOf s body := by
  cases i with
  | initLf128 | initLf256 | initCtr | initSrp | initBlk =>
    simp only [exec, execInitLf128, execInitLf256, execInitCtr, execInitSrp, execInitBlk, initCommand]
    exact ⟨_, rfl⟩
  | process => rw [exec, execProcess]; exact ⟨_, rfl⟩
  | retbyte => rw [exec, execRetbyte]; exact ⟨_, rfl⟩
  | reset => rw [exec, execReset]; exact ⟨_, rfl⟩
  | snapshot => rw [exec, execSnapshot]; exact ⟨_, rfl⟩
  | restore => rw [exec, execRestore]; exact ⟨_, rfl⟩
  | drop => rw [exec, execDrop]; exact ⟨_, rfl⟩

/-- A context that does not exist is BAD_INDEX, whatever the command. -/
theorem exec_of_no_context (h : ¬ s.hasContext i.ctxOf) : exec i s = .next (s.refusedWith i .badIndex) := by
  obtain ⟨body, hexec⟩ := exec_eq_onContext i s
  rw [hexec, onContext_of_ge s i body h]

/-- The slot check passes in the latched command as it does before. -/
theorem needSlot_latch (i : Instr) (hk : s.hasSlot k) (body : Out) : needSlot (s.latch (encode i)) k body = body :=
  needSlot_of_lt (s.latch (encode i)) hk body

/-- A slot that does not exist is BAD_INDEX, before the context is looked at (60_exceptions.md R186). -/
theorem exec_of_no_slot (hslot : i.slotOf = some k) (hk : ¬ s.hasSlot k) :
    exec i s = .next (s.refusedWith i .badIndex) := by
  cases i with
  | snapshot c j =>
    cases hslot
    rcases execSnapshot_cases s c k with ⟨-, h⟩ | ⟨-, hk', -⟩ | ⟨-, hk', -⟩ | ⟨-, hk', -⟩
    · exact h
    all_goals exact absurd hk' hk
  | restore c j =>
    cases hslot
    rcases execRestore_cases s c k with ⟨-, h⟩ | ⟨-, hk', -⟩ | ⟨-, hk', -⟩ | ⟨-, hk', -⟩ | ⟨-, hk', -⟩
    · exact h
    all_goals exact absurd hk' hk
  | _ => cases hslot

/-- A DEAD context answers every command but DROP with DEAD_CTX (40_contract.md R83). -/
theorem exec_of_dead (hc : s.hasContext i.ctxOf) (hslot : ∀ k, i.slotOf = some k → s.hasSlot k) {e : TerminalError}
    (hx : s.context i.ctxOf = .dead e) (hi : ∀ c, i ≠ .drop c) : exec i s = .next (s.refusedWith i .deadCtx) := by
  cases i <;> simp only [Instr.ctxOf] at hc hx
  case initLf128 c a => exact exec_initOf_of_dead (eng := .lf128) hc hx
  case initLf256 c a => exact exec_initOf_of_dead (eng := .lf256) hc hx
  case initCtr c a => exact exec_initOf_of_dead (eng := .ctr) hc hx
  case initSrp c a => exact exec_initOf_of_dead (eng := .srp) hc hx
  case initBlk c a => exact exec_initOf_of_dead (eng := .blk) hc hx
  case process c => rw [exec, execProcess, onContext_of_lt s _ _ hc, hx]; rfl
  case retbyte c b => rw [exec, execRetbyte, onContext_of_lt s _ _ hc, hx]; rfl
  case reset c => rw [exec, execReset, onContext_of_lt s _ _ hc, hx]; rfl
  case snapshot c k => rw [exec, execSnapshot, onContext_of_lt s _ _ hc, hx, needSlot_latch _ (hslot k rfl)]; rfl
  case restore c k => rw [exec, execRestore, onContext_of_lt s _ _ hc, hx, needSlot_latch _ (hslot k rfl)]; rfl
  case drop c => exact absurd rfl (hi c)

/-- The commands that need a READY context (40_contract.md R83). -/
def NeedsReady (i : Instr) : Prop :=
  i.IsProcess ∨ (∃ c b, i = .retbyte c b) ∨ (∃ c, i = .reset c) ∨ ∃ c k, i = .snapshot c k

/-- An EMPTY context answers the commands that need a READY one with NOT_INIT (40_contract.md R83). -/
theorem exec_of_empty (hc : s.hasContext i.ctxOf) (hslot : ∀ k, i.slotOf = some k → s.hasSlot k)
    (hx : s.context i.ctxOf = .empty) (hi : NeedsReady i) : exec i s = .next (s.refusedWith i .notInit) := by
  rcases hi with ⟨c, rfl⟩ | ⟨c, b, rfl⟩ | ⟨c, rfl⟩ | ⟨c, k, rfl⟩ <;> simp only [Instr.ctxOf] at hc hx
  · rw [exec, execProcess, onContext_of_lt s _ _ hc, hx]; rfl
  · rw [exec, execRetbyte, onContext_of_lt s _ _ hc, hx]; rfl
  · rw [exec, execReset, onContext_of_lt s _ _ hc, hx]; rfl
  · rw [exec, execSnapshot, onContext_of_lt s _ _ hc, hx, needSlot_latch _ (hslot k rfl)]; rfl

/-- RETBYTE on BLK (40_contract.md R93). -/
theorem execRetbyte_blk (hc : s.hasContext c) {st : BlkState} {rst : CipherState} (hx : s.context c = .ready (.blk st) rst)
    (b : Byte) : execRetbyte c b s = .next (s.refusedWith (.retbyte c b) .noRetbyte) := by
  rw [execRetbyte, onContext_of_lt s _ _ hc, hx]
  rfl

/-- RESTORE from an unused slot (40_contract.md R97). -/
theorem execRestore_unused (hc : s.hasContext c) (hk : s.hasSlot k) (hx : (s.context c).Alive)
    (hsnap : s.snapshotAt k = none) : execRestore c k s = .next (s.refusedWith (.restore c k) .snapEmpty) := by
  rw [execRestore, onContext_of_lt s _ _ hc, needSlot_latch _ hk, latch_snapshotAt, hsnap]
  cases hctx : s.context c with
  | dead e => exact absurd hctx (hx e)
  | empty | ready => rfl

/-- RESTORE from a used slot into a READY context: the engines decide (40_contract.md R97). -/
theorem execRestore_ready (hc : s.hasContext c) (hk : s.hasSlot k) {cur rst : CipherState} {snap : Snapshot}
    (hx : s.context c = .ready cur rst) (hsnap : s.snapshotAt k = some snap) :
    execRestore c k s =
      if cur.engine = snap.cur.engine then .next ((s.setContext c (.ready snap.cur snap.rst)).done (.restore c k) 0)
      else .next (s.refusedWith (.restore c k) .snapMismatch) := by
  rw [execRestore, onContext_of_lt s _ _ hc, needSlot_latch _ hk, latch_snapshotAt, hsnap, hx]
  by_cases heng : cur.engine = snap.cur.engine
  · simp only [engineDiffers, heng, ne_eq, not_true, decide_false, if_true]
    rfl
  · simp only [engineDiffers, heng, ne_eq, not_false_eq_true, decide_true, if_true, if_false]
    rfl

/-- RESTORE from a used slot into an EMPTY context (40_contract.md R97). -/
theorem execRestore_empty (hc : s.hasContext c) (hk : s.hasSlot k) {snap : Snapshot} (hx : s.context c = .empty)
    (hsnap : s.snapshotAt k = some snap) :
    execRestore c k s = .next ((s.setContext c (.ready snap.cur snap.rst)).done (.restore c k) 0) := by
  rw [execRestore, onContext_of_lt s _ _ hc, needSlot_latch _ hk, latch_snapshotAt, hsnap, hx]
  rfl

end

/-- Settles O18: the two index checks. -/
theorem indexErrors : Obligations.IndexErrors := by
  unfold Obligations.IndexErrors
  rintro i s (hc | ⟨k, hslot, hk⟩)
  · exact exec_of_no_context hc
  · exact exec_of_no_slot hslot hk

/-- Settles O19: the two columns of the lifecycle table that end in an error. -/
theorem lifecycleErrors : Obligations.LifecycleErrors := by
  unfold Obligations.LifecycleErrors
  intro i s hc hslot
  exact ⟨fun ⟨_, hx⟩ hi => exec_of_dead hc hslot hx hi, fun hx hi => exec_of_empty hc hslot hx hi⟩

/-- Settles O20. -/
theorem engineAndSlotErrors : Obligations.EngineAndSlotErrors := by
  unfold Obligations.EngineAndSlotErrors
  intro s c hc
  refine ⟨fun b st rst hx => execRetbyte_blk hc hx b, fun k hk hx hsnap => execRestore_unused hc hk hx hsnap,
    fun k snap cur rst hk hx hsnap heng => ?_⟩
  exact (execRestore_ready hc hk hx hsnap).trans (if_neg heng)

end Sys2Proof.Machine
end

section
/-!
SUPPORT. The configuration check of INIT (40_contract.md R85).
-/

namespace Sys2Proof.Machine

/-- The key lengths the check accepts are those of R85's table. -/
theorem keyLengthOk_iff (eng : Engine) (n : Nat) : keyLengthOk eng n = true ↔ n ∈ acceptedKeyLengths eng := by
  cases eng with
  | srp =>
    simp only [keyLengthOk, acceptedKeyLengths, List.mem_range'_1, Bool.and_eq_true, decide_eq_true_eq]
    omega
  | lf128 | lf256 | ctr | blk => simp [keyLengthOk, acceptedKeyLengths, or_assoc]

/-- The IV lengths the check accepts are those of R85's table. -/
theorem ivLengthOk_iff (eng : Engine) (n : Nat) : ivLengthOk eng n = true ↔ n ∈ acceptedIvLengths eng := by
  cases eng with
  | srp =>
    simp only [ivLengthOk, acceptedIvLengths, List.mem_range, decide_eq_true_eq]
    omega
  | lf128 | lf256 | ctr | blk => simp [ivLengthOk, acceptedIvLengths]

/-- The outcomes of the check in its order, each with its cause. -/
theorem configCheck_cases (eng : Engine) (a : InitOperands) :
    (a.hasKey = false ∧ configCheck eng a = some .noKey) ∨
    (a.hasKey = true ∧ a.klen.toNat ∉ acceptedKeyLengths eng ∧ configCheck eng a = some .keyLen) ∨
    (a.hasKey = true ∧ a.klen.toNat ∈ acceptedKeyLengths eng ∧ eng ≠ .blk ∧ a.hasIv = false ∧
      configCheck eng a = some .noIv) ∨
    (a.hasKey = true ∧ a.klen.toNat ∈ acceptedKeyLengths eng ∧ a.hasIv = true ∧
      (eng = .blk ∨ a.ivlen.toNat ∉ acceptedIvLengths eng) ∧ configCheck eng a = some .ivLen) ∨
    (a.hasKey = true ∧ a.klen.toNat ∈ acceptedKeyLengths eng ∧
      ((eng = .blk ∧ a.hasIv = false) ∨ (eng ≠ .blk ∧ a.hasIv = true ∧ a.ivlen.toNat ∈ acceptedIvLengths eng)) ∧
      configCheck eng a = none) := by
  simp only [configCheck, ← Bool.not_eq_true, keyLengthOk_iff, ivLengthOk_iff]
  by_cases hkey : a.hasKey = true
  · by_cases hklen : a.klen.toNat ∈ acceptedKeyLengths eng
    · by_cases heng : eng = .blk
      · subst heng
        by_cases hiv : a.hasIv = true <;> simp [hkey, hklen, hiv]
      · by_cases hiv : a.hasIv = true
        · by_cases hivlen : a.ivlen.toNat ∈ acceptedIvLengths eng <;> simp [hkey, hklen, heng, hiv, hivlen]
        · simp [hkey, hklen, heng, hiv]
    · simp [hkey, hklen]
  · simp [hkey]

/-- What INIT accepts. -/
theorem configCheck_eq_none_iff (eng : Engine) (a : InitOperands) :
    configCheck eng a = none ↔
      a.hasKey = true ∧ a.klen.toNat ∈ acceptedKeyLengths eng ∧
        ((eng = .blk ∧ a.hasIv = false) ∨ (eng ≠ .blk ∧ a.hasIv = true ∧ a.ivlen.toNat ∈ acceptedIvLengths eng)) := by
  rcases configCheck_cases eng a with ⟨hkey, h⟩ | ⟨hkey, hklen, h⟩ | ⟨hkey, hklen, heng, hiv, h⟩ |
    ⟨hkey, hklen, hiv, heng | hivlen, h⟩ | ⟨hkey, hklen, hlast, h⟩
  · simp [h, hkey]
  · simp [h, hklen]
  · simp [h, heng, hiv]
  · subst heng
    simp [h, hiv]
  · simp [h, hiv, hivlen]
  · exact iff_of_true h ⟨hkey, hklen, hlast⟩

/-- Settles O21: each cause makes one of the five equivalences true on both sides and the others false on both. -/
theorem configCheckOrder : Obligations.ConfigCheckOrder := by
  unfold Obligations.ConfigCheckOrder
  intro eng a keyOk ivOk
  simp only [keyOk, ivOk]
  rcases configCheck_cases eng a with ⟨hkey, h⟩ | ⟨hkey, hklen, h⟩ | ⟨hkey, hklen, heng, hiv, h⟩ |
    ⟨hkey, hklen, hiv, heng | hivlen, h⟩ | ⟨hkey, hklen, ⟨heng, hiv⟩ | ⟨heng, hiv, hivlen⟩, h⟩
  · simp [h, hkey, ConfigError.code]
  · simp [h, hkey, hklen, ConfigError.code]
  · simp [h, hkey, hklen, heng, hiv, ConfigError.code]
  · subst heng
    simp [h, hkey, hklen, hiv, ConfigError.code]
  · simp [h, hkey, hklen, hiv, hivlen, ConfigError.code]
  · subst heng
    simp [h, hkey, hklen, hiv, ConfigError.code]
  · simp [h, hkey, hklen, heng, hiv, hivlen, ConfigError.code]

end Sys2Proof.Machine
end

section
/-!
SUPPORT. RETBYTE, RESET, SNAPSHOT, RESTORE and DROP where they succeed (40_contract.md R93 to R98, R102).
-/

namespace Sys2Proof.Machine

section
variable {s : State} {c k : BitVec 4}

/-- RETBYTE on a context that has a next byte (40_contract.md R93). -/
theorem execRetbyte_some (hc : s.hasContext c) {st st' : StreamState} {rst : CipherState} {b kb : Byte}
    (hx : s.context c = .ready (.stream st) rst) (hnext : nextByte s.cfg st = some (kb, st')) :
    execRetbyte c b s =
      .next ((s.setContext c (.ready (.stream st') rst)).done (.retbyte c b) ((b ^^^ kb).setWidth 32)) := by
  rw [execRetbyte, onContext_of_lt s _ _ hc, hx]
  simp only [needReady, latch_cfg, hnext]
  rfl

/-- RETBYTE that meets the word limit (40_contract.md R92). -/
theorem execRetbyte_none (hc : s.hasContext c) {st : StreamState} {rst : CipherState} (b : Byte)
    (hx : s.context c = .ready (.stream st) rst) (hnext : nextByte s.cfg st = none) :
    execRetbyte c b s = .next (s.killedWith (.retbyte c b) c (.exhausted .wordLimit)) := by
  rw [execRetbyte, onContext_of_lt s _ _ hc, hx]
  simp only [needReady, latch_cfg, hnext, raise_terminal_latch]
  rfl

theorem execReset_ready (hc : s.hasContext c) {cur rst : CipherState} (hx : s.context c = .ready cur rst) :
    execReset c s = .next ((s.setContext c (.ready rst rst)).done (.reset c) 0) := by
  rw [execReset, onContext_of_lt s _ _ hc, hx]
  rfl

theorem execSnapshot_ready (hc : s.hasContext c) (hk : s.hasSlot k) {cur rst : CipherState}
    (hx : s.context c = .ready cur rst) :
    execSnapshot c k s = .next ((s.setSnapshot k (some { cur := cur, rst := rst })).done (.snapshot c k) 0) := by
  rw [execSnapshot, onContext_of_lt s _ _ hc, hx, needSlot_latch _ hk]
  rfl

theorem execDrop_of_context (hc : s.hasContext c) :
    execDrop c s = .next ((s.setContext c .empty).done (.drop c) 0) := by
  rw [execDrop, onContext_of_lt s _ _ hc]
  rfl

end

/-- Taking one byte is `NextByte` (40_contract.md R90). -/
theorem takeBytes_one {cfg : Config} {st st' : StreamState} {b : Byte} (h : nextByte cfg st = some (b, st')) :
    takeBytes cfg 1 st = some ([b], st') :=
  takeBytes_succ_some h rfl

/-- A byte zero-extended is the byte below 24 zero bits. -/
theorem zero_append_byte (b : Byte) : (0#24 ++ b : Word) = b.setWidth 32 :=
  (BitVec.setWidth_eq_append (by decide)).symm

/-- Settles O42. -/
theorem retbyteCompletes : Obligations.RetbyteCompletes := by
  unfold Obligations.RetbyteCompletes
  intro s c b kb st st' rst hc hx hnext
  exact ⟨by rw [zero_append_byte]; exact execRetbyte_some hc hx hnext, takeBytes_one hnext⟩

/-- A command that leaves a context as it is, twice, is that command once. -/
theorem done_setContext_idem (s : State) (i : Instr) (r : Word) (c : BitVec 4) (x : Context) :
    (((s.setContext c x).done i r).setContext c x).done i r = (s.setContext c x).done i r := by
  calc (((s.setContext c x).done i r).setContext c x).done i r
    _ = (((s.setContext c x).setContext c x).done i r).done i r := rfl
    _ = (s.setContext c x).done i r := by rw [setContext_setContext_same]; rfl

/-- Settles O43: the second RESET finds the reset image in the context. -/
theorem resetCompletes : Obligations.ResetCompletes := by
  unfold Obligations.ResetCompletes
  intro s c cur rst hc hx
  have hafter : ((s.setContext c (.ready rst rst)).done (.reset c) 0).context c = .ready rst rst := by
    rw [done_context, context_setContext_same s (lt_length_of_ready s hx)]
  refine ⟨execReset_ready hc hx, ?_⟩
  rw [exec, execReset_ready (s := (s.setContext c (.ready rst rst)).done (.reset c) 0) hc hafter, done_setContext_idem]

/-- Settles O45. -/
theorem snapshotCompletes : Obligations.SnapshotCompletes := by
  unfold Obligations.SnapshotCompletes
  exact fun _ _ _ _ _ hc hk hx => execSnapshot_ready hc hk hx

/-- Settles O46. -/
theorem restoreCompletes : Obligations.RestoreCompletes := by
  unfold Obligations.RestoreCompletes
  rintro s c k snap hc hk hsnap (hempty | ⟨cur, rst, hx, heng⟩)
  · exact execRestore_empty hc hk hempty hsnap
  · exact (execRestore_ready hc hk hx hsnap).trans (if_pos heng)

/-- Settles O47: DROP looks at no lifecycle. -/
theorem dropCompletes : Obligations.DropCompletes := by
  unfold Obligations.DropCompletes
  exact fun _ _ hc => ⟨execDrop_of_context hc, rfl⟩

/-- Any number of steps keeps the reset image (10_state.md R33): the induction over `StepKeepsResetImage`. -/
theorem run_keeps_resetImage {c : BitVec 4} {rst : CipherState} {k : Nat} {s u : State} (h : HoldsImage c rst s)
    (hrun : Sys2Proof.core.run k s = .next u) : HoldsImage c rst u := by
  induction k generalizing s with
  | zero => cases hrun; exact h
  | succ k ih =>
    simp only [Host.Core.run] at hrun
    split at hrun
    · rename_i t hstep
      exact ih (stepKeepsResetImage c rst s t h hstep) hrun
    · cases hrun
    · cases hrun

/-- A RESET that succeeds found a READY context and left its reset image in it (40_contract.md R94). -/
theorem context_of_reset {c : BitVec 4} {u v : State} (hexec : exec (.reset c) u = .next v)
    (hok : statusClass v.status = 0) : ∃ cur rst, u.context c = .ready cur rst ∧ v.context c = .ready rst rst := by
  rcases execReset_cases u c with ⟨-, h⟩ | ⟨-, -, h⟩ | ⟨-, -, h⟩ | ⟨-, cur, rst, hx, h⟩ <;>
    obtain rfl := Host.Outcome.next.inj (h.symm.trans hexec)
  · simp at hok
  · simp at hok
  · simp at hok
  · exact ⟨cur, rst, hx, by rw [done_context, context_setContext_same u (lt_length_of_ready u hx)]⟩

/-- Settles O44: the context holds the reset image it started from, and RESET installs that. -/
theorem resetReturnsToInit : Obligations.ResetReturnsToInit := by
  unfold Obligations.ResetReturnsToInit
  intro k s u v c st hx hpending hrun hexec hok
  have himage : HoldsImage c st u := run_keeps_resetImage ⟨.inl ⟨st, hx⟩, hpending⟩ hrun
  obtain ⟨cur, rst, hready, hreset⟩ := context_of_reset hexec hok
  rcases himage.holds with ⟨cur', h⟩ | h | ⟨e, h⟩
  · cases hready.symm.trans h
    rw [hreset, hx]
  · cases hready.symm.trans h
  · cases hready.symm.trans h

end Sys2Proof.Machine
end

section
/-!
SUPPORT. PROCESS on every engine in one (40_contract.md R89 to R92): `CipherState.transform` is what PROCESS makes of its input
bytes and of the CipherState; a PROCESS succeeds exactly when its ranges fit and the transform has a value.
-/

namespace Sys2Proof.Machine

/-! ### Bytes of lists and memories -/

theorem byteAt_append (x y : List Byte) (i : Nat) :
    byteAt (x ++ y) i = if i < x.length then byteAt x i else byteAt y (i - x.length) := by
  split
  · rename_i h
    exact List.getD_append _ _ _ _ h
  · rename_i h
    exact List.getD_append_right _ _ _ _ (Nat.le_of_not_lt h)

theorem byteAt_xorBytes {x y : List Byte} {i : Nat} (hx : i < x.length) (hy : i < y.length) :
    byteAt (xorBytes x y) i = byteAt x i ^^^ byteAt y i := by
  have hlen : i < (xorBytes x y).length := by simp [xorBytes, hx, hy]
  rw [byteAt, byteAt, byteAt, List.getD_eq_getElem _ _ hlen, List.getD_eq_getElem _ _ hx, List.getD_eq_getElem _ _ hy]
  exact List.getElem_zipWith

/-- A byte of a row of 16-byte blocks. -/
theorem byteAt_blocks {f : Nat → List Byte} (hf : ∀ q, (f q).length = 16) {n q j : Nat} (hq : q < n) (hj : j < 16) :
    byteAt ((List.range n).flatMap f) (16 * q + j) = byteAt (f q) j := by
  induction n with
  | zero => cases hq
  | succ n ih =>
    have hlen : ((List.range n).flatMap f).length = 16 * n := by simp [List.length_flatMap, hf, Nat.mul_comm]
    rw [List.range_succ, List.flatMap_append, byteAt_append, hlen]
    by_cases hqn : q < n
    · rw [if_pos (by omega), ih hqn]
    · obtain rfl : q = n := by omega
      rw [if_neg (by omega), Nat.add_sub_cancel_left]
      simp

/-- A memory byte after a write of bytes: the byte written, or what stood there (20_memory.md R53). -/
theorem readByte_writeBytes (s : State) (buf : Buffer) (base : Nat) (bs : List Byte) (a : Nat) :
    (s.writeBytes buf base bs).readByte buf a =
      if base ≤ a ∧ a < base + bs.length then byteAt bs (a - base) else s.readByte buf a := by
  split
  · rename_i h
    obtain ⟨j, rfl⟩ := Nat.exists_eq_add_of_le h.1
    have hj : j < bs.length := by omega
    rw [readByte_writeBytes_inside s buf base bs j hj, Nat.add_sub_cancel_left, byteAt, List.getD_eq_getElem _ _ hj]
  · exact readByte_writeBytes_outside s buf base bs a (by omega)

section
variable (s : State) (buf : Buffer) (base : Nat)

theorem byteAt_readBytes {n i : Nat} (h : i < n) : byteAt (s.readBytes buf base n) i = s.readByte buf (base + i) := by
  rw [byteAt, List.getD_eq_getElem _ _ (by simpa using h)]
  simp [State.readBytes]

theorem readBytes_add (m n : Nat) :
    s.readBytes buf base (m + n) = s.readBytes buf base m ++ s.readBytes buf (base + m) n := by
  simp only [State.readBytes, List.range_add, List.map_append, List.map_map]
  exact congrArg _ (List.map_congr_left fun i _ => by simp [Nat.add_assoc])

theorem take_drop_readBytes {k m n : Nat} (h : k + m ≤ n) :
    ((s.readBytes buf base n).drop k).take m = s.readBytes buf (base + k) m := by
  obtain ⟨l, rfl⟩ := Nat.exists_eq_add_of_le h
  rw [Nat.add_assoc, readBytes_add, readBytes_add, List.drop_left' (by simp), List.take_left' (by simp)]

@[simp] theorem inputBytes_length : s.inputBytes.length = s.len := readBytes_length s .ibuf s.inOff s.len

end

/-! ### The transform -/

/-- The blocks of `input`, each transformed on its own (40_contract.md R89, R91). -/
def blkBlocks (rom : Rom) (st : BlkState) (input : List Byte) : List Byte :=
  (List.range (input.length / 16)).flatMap fun q => blkCrypt rom st ((input.drop (16 * q)).take 16)

/-- What PROCESS makes of input bytes and of the CipherState: none where the word limit is met, or where a BLK length is no
multiple of 16 (40_contract.md R89, R91, R92). -/
def CipherState.transform (cfg : Config) (input : List Byte) : CipherState → Option (List Byte × CipherState)
  | .stream st => (takeBytes cfg input.length st).map fun p => (xorBytes input p.1, .stream p.2)
  | .blk st => if input.length % 16 = 0 then some (blkBlocks cfg.rom st input, .blk st) else none

theorem blkOutput_eq_blkBlocks (s : State) (st : BlkState) : blkOutput s st = blkBlocks s.cfg.rom st s.inputBytes := by
  simp only [blkOutput, blkBlocks, inputBytes_length]
  refine List.flatMap_congr fun q hq => ?_
  have hq := List.mem_range.mp hq
  rw [State.inputBytes, take_drop_readBytes _ _ _ (by omega)]

section
variable {cfg : Config} {input out : List Byte}

theorem transform_stream {st st' : StreamState} {ks : List Byte} (h : takeBytes cfg input.length st = some (ks, st')) :
    (CipherState.stream st).transform cfg input = some (xorBytes input ks, .stream st') := by
  simp only [CipherState.transform, h, Option.map_some]

theorem transform_blk {st : BlkState} (h : input.length % 16 = 0) :
    (CipherState.blk st).transform cfg input = some (blkBlocks cfg.rom st input, .blk st) := if_pos h

/-- How the transform of a stream CipherState comes about. -/
theorem of_transform_stream {st : StreamState} {cur' : CipherState}
    (h : (CipherState.stream st).transform cfg input = some (out, cur')) :
    ∃ ks st', takeBytes cfg input.length st = some (ks, st') ∧ out = xorBytes input ks ∧ cur' = .stream st' := by
  obtain ⟨⟨ks, st'⟩, htake, heq⟩ := Option.map_eq_some_iff.mp h
  obtain ⟨rfl, rfl⟩ := Prod.mk.inj heq
  exact ⟨ks, st', htake, rfl, rfl⟩

/-- How the transform of a BLK CipherState comes about: it does not change (45_block_cipher.md R161). -/
theorem of_transform_blk {st : BlkState} {cur' : CipherState}
    (h : (CipherState.blk st).transform cfg input = some (out, cur')) :
    input.length % 16 = 0 ∧ out = blkBlocks cfg.rom st input ∧ cur' = .blk st := by
  simp only [CipherState.transform] at h
  split at h
  · rename_i hlen
    cases h
    exact ⟨hlen, rfl, rfl⟩
  · cases h

/-- As many bytes come out as go in (40_contract.md R89). -/
theorem transform_length {cur cur' : CipherState} (h : cur.transform cfg input = some (out, cur')) :
    out.length = input.length := by
  cases cur with
  | stream st =>
    obtain ⟨ks, st', htake, rfl, -⟩ := of_transform_stream h
    simp [xorBytes, takeBytes_length htake]
  | blk st =>
    obtain ⟨hlen, rfl, -⟩ := of_transform_blk h
    simp only [blkBlocks, List.length_flatMap, blkCrypt_length, List.map_const', List.length_range, List.sum_replicate,
      smul_eq_mul]
    omega

end

/-! ### PROCESS by its transform -/

section
variable {s t : State} {c : BitVec 4}

/-- Writing back the value a context has changes nothing. -/
theorem setContext_of_context {x : Context} (h : s.context c = x) : s.setContext c x = s :=
  h ▸ setContext_context s c

/-- PROCESS whose ranges fit and whose transform has a value (40_contract.md R89). -/
theorem execProcess_of_transform (hc : s.hasContext c) (hfit : s.rangesFit = true) {cur cur' rst : CipherState}
    {out : List Byte} (hx : s.context c = .ready cur rst) (ht : cur.transform s.cfg s.inputBytes = some (out, cur')) :
    execProcess c s =
      .next (((s.writeBytes .obuf s.outOff out).setContext c (.ready cur' rst)).done (.process c) s.arg1) := by
  rcases execProcess_cases s c with ⟨hno, -⟩ | ⟨-, ⟨e, hdead⟩, -⟩ | ⟨-, hempty, -⟩ | ⟨-, ⟨cur₁, rst₁, hx₁, hshort⟩, -⟩ |
    ⟨-, -, st, rst₁, hx₁, -, h⟩ | ⟨-, -, st, rst₁, hx₁, hnone, -⟩ | ⟨-, -, st, rst₁, ks, st', hx₁, htake, h⟩
  · exact absurd hc hno
  · cases hx.symm.trans hdead
  · cases hx.symm.trans hempty
  · cases hx.symm.trans hx₁
    rcases hshort with hshort | ⟨hblk, hlen⟩
    · cases hfit.symm.trans hshort
    · cases cur with
      | stream st => exact absurd hblk st.engine_ne_blk
      | blk st => exact absurd (inputBytes_length s ▸ (of_transform_blk ht).1) hlen
  · cases hx.symm.trans hx₁
    obtain ⟨-, rfl, rfl⟩ := of_transform_blk ht
    rw [h, blkOutput_eq_blkBlocks, setContext_of_context (by rw [writeBytes_context, hx])]
  · cases hx.symm.trans hx₁
    obtain ⟨ks, st', htake, -⟩ := of_transform_stream ht
    rw [inputBytes_length, hnone] at htake
    cases htake
  · cases hx.symm.trans hx₁
    obtain ⟨ks₁, st₁, htake₁, rfl, rfl⟩ := of_transform_stream ht
    rw [inputBytes_length, htake] at htake₁
    cases htake₁
    exact h

/-- A PROCESS that succeeded: its ranges fitted and its transform had a value (40_contract.md R89). -/
theorem transform_of_execProcess (hexec : exec (.process c) s = .next t) (hok : statusClass t.status = 0) :
    ∃ cur rst out cur', s.hasContext c ∧ s.rangesFit = true ∧ s.context c = .ready cur rst ∧
      cur.transform s.cfg s.inputBytes = some (out, cur') ∧
      t = ((s.writeBytes .obuf s.outOff out).setContext c (.ready cur' rst)).done (.process c) s.arg1 := by
  rcases execProcess_cases s c with ⟨-, h⟩ | ⟨-, -, h⟩ | ⟨-, -, h⟩ | ⟨-, -, h⟩ | ⟨hc, hfit, st, rst, hx, hlen, h⟩ |
    ⟨-, -, -, -, -, -, h⟩ | ⟨hc, hfit, st, rst, ks, st', hx, htake, h⟩ <;>
    obtain rfl := Host.Outcome.next.inj (h.symm.trans hexec)
  case inr.inr.inr.inr.inl =>
    refine ⟨_, rst, _, _, hc, hfit, hx, transform_blk (by rw [inputBytes_length, hlen]), ?_⟩
    rw [← blkOutput_eq_blkBlocks, setContext_of_context (by rw [writeBytes_context, hx])]
  case inr.inr.inr.inr.inr.inr =>
    exact ⟨_, rst, _, _, hc, hfit, hx, transform_stream (by rw [inputBytes_length, htake]), rfl⟩
  case inr.inr.inr.inr.inr.inl => simp [TerminalError.cls] at hok
  all_goals simp at hok

/-- The state after a PROCESS whose transform gives `out` and `cur'`: the context, the range of `OBUF`, and the rest of it
(20_memory.md R53). -/
theorem readByte_after_process {out : List Byte} (x : Context) (r : Word) (a : Nat) :
    (((s.writeBytes .obuf s.outOff out).setContext c x).done (.process c) r).readByte .obuf a =
      if s.outOff ≤ a ∧ a < s.outOff + out.length then byteAt out (a - s.outOff) else s.readByte .obuf a := by
  rw [done_readByte, setContext_readByte, readByte_writeBytes]

theorem context_after_process {cur rst : CipherState} (hx : s.context c = .ready cur rst) (out : List Byte) (x : Context)
    (r : Word) : (((s.writeBytes .obuf s.outOff out).setContext c x).done (.process c) r).context c = x := by
  rw [done_context, context_setContext_same _ (by rw [writeBytes_ctx]; exact lt_length_of_ready s hx)]

/-- The output bytes of a PROCESS that succeeds on a stream engine (40_contract.md R89). -/
theorem readByte_of_processStream {st : StreamState} {rst : CipherState} (hx : s.context c = .ready (.stream st) rst)
    (hexec : exec (.process c) s = .next t) (hok : statusClass t.status = 0) :
    ∃ ks st', takeBytes s.cfg s.len st = some (ks, st') ∧
      ∀ i < s.len, t.readByte .obuf (s.outOff + i) = s.readByte .ibuf (s.inOff + i) ^^^ byteAt ks i := by
  obtain ⟨cur, rst₁, out, cur', -, -, hx₁, ht, rfl⟩ := transform_of_execProcess hexec hok
  cases hx.symm.trans hx₁
  have hlen := (transform_length ht).trans (inputBytes_length s)
  obtain ⟨ks, st', htake, rfl, rfl⟩ := of_transform_stream ht
  rw [inputBytes_length] at htake
  refine ⟨ks, st', htake, fun i hi => ?_⟩
  rw [readByte_after_process, if_pos (by omega), Nat.add_sub_cancel_left,
    byteAt_xorBytes (by rw [inputBytes_length]; exact hi) (by rw [takeBytes_length htake]; exact hi), State.inputBytes,
    byteAt_readBytes _ _ _ hi]

/-- PROCESS that meets the word limit (40_contract.md R92). -/
theorem execProcess_limit (hc : s.hasContext c) (hfit : s.rangesFit = true) {st : StreamState} {rst : CipherState}
    (hx : s.context c = .ready (.stream st) rst) (hnone : takeBytes s.cfg s.len st = none) :
    execProcess c s = .next (s.leaveResidue.killedWith (.process c) c (.exhausted .wordLimit)) := by
  rw [execProcess, onContext_of_lt s _ _ hc, hx]
  calc _ = processStream c (s.latch (encode (.process c))) st rst := if_pos hfit
    _ = (s.latch (encode (.process c))).leaveResidue.raise _ := processStream_none _ c rst hnone
    _ = _ := raise_terminal_latch s.leaveResidue (.process c) _

end

/-- Settles O32. -/
theorem processStreamCompletes : Obligations.ProcessStreamCompletes := by
  unfold Obligations.ProcessStreamCompletes
  intro s c st st' rst ks hc hx hin hout htake
  have ht := transform_stream (input := s.inputBytes) (by rw [inputBytes_length]; exact htake)
  have hlen : (xorBytes s.inputBytes ks).length = s.arg1.toNat := (transform_length ht).trans (inputBytes_length s)
  have hexec := execProcess_of_transform hc ((rangesFit_iff s).mpr ⟨hin, hout⟩) hx ht
  refine ⟨xorBytes s.inputBytes ks, hlen, hexec, fun t hrun => ?_⟩
  obtain ⟨ks', st₁, htake', hbytes⟩ := readByte_of_processStream hx hrun
    (by obtain rfl := Host.Outcome.next.inj (hexec.symm.trans hrun); exact statusClass_done _ _ _)
  cases htake.symm.trans htake'
  obtain rfl := Host.Outcome.next.inj (hexec.symm.trans hrun)
  refine ⟨context_after_process hx _ _ _, hbytes, fun a ha => ?_⟩
  rw [readByte_after_process, if_neg (by simp only [State.outOff]; omega)]

/-- Settles O33. -/
theorem processBlkCompletes : Obligations.ProcessBlkCompletes := by
  unfold Obligations.ProcessBlkCompletes
  intro s c st rst hc hx hin hout hblocks
  have ht := transform_blk (cfg := s.cfg) (st := st) (input := s.inputBytes) (by rw [inputBytes_length]; exact hblocks)
  rw [← blkOutput_eq_blkBlocks] at ht
  have hlen : (blkOutput s st).length = s.arg1.toNat := blkOutput_length s st hblocks
  have hsame : (s.writeBytes .obuf s.outOff (blkOutput s st)).setContext c (.ready (.blk st) rst) = _ :=
    setContext_of_context (by rw [writeBytes_context, hx])
  have hexec := execProcess_of_transform hc ((rangesFit_iff s).mpr ⟨hin, hout⟩) hx ht
  refine ⟨blkOutput s st, hlen, by rw [← State.outOff, ← hsame]; exact hexec, fun t hrun => ?_⟩
  obtain rfl := Host.Outcome.next.inj (hexec.symm.trans hrun)
  refine ⟨by rw [context_after_process hx, hx], fun q hq j hj => ?_, fun a ha => ?_⟩
  · rw [readByte_after_process, if_pos (by simp only [State.outOff]; omega), State.outOff, Nat.add_sub_cancel_left]
    exact byteAt_blocks (fun _ => blkCrypt_length _ _ _) hq hj
  · rw [readByte_after_process, if_neg (by simp only [State.outOff]; omega)]

/-- Settles O36. -/
theorem wordLimitKillsTheContext : Obligations.WordLimitKillsTheContext := by
  unfold Obligations.WordLimitKillsTheContext
  intro s c st rst hc hlength hx
  refine ⟨fun hin hout hnone => ?_, fun b hnone => execRetbyte_none hc b hx hnone⟩
  refine ⟨_, execProcess_limit hc ((rangesFit_iff s).mpr ⟨hin, hout⟩) hx hnone, ?_, ?_, rfl, fun a ha => ?_⟩
  · rw [killedWith_context, context_setContext_same s.leaveResidue hlength]
  · have hword : errorStatus (encode (.process c)) (.terminal (.exhausted .wordLimit)) =
        0#16 ++ opField (encode (.process c)) ++ ctxField (encode (.process c)) ++ 1#4 ++ 0#2 ++ 3#2 := rfl
    rw [opField_encode, ctxField_encode] at hword
    exact hword
  · rw [killedWith_readByte, readByte_leaveResidue_outside s a ha]

/-! ### Two commands -/

theorem inputBytes_withArgs (s : State) (a b d : Word) :
    (s.withArgs a b d).inputBytes = s.readBytes .ibuf a.toNat b.toNat :=
  readBytes_congr fun _ _ => withArgs_readByte ..

/-- Bytes taken in two portions are the bytes taken at once (40_contract.md R99). -/
theorem takeBytes_add {cfg : Config} {m n : Nat} {st st₁ st₂ : StreamState} {ks ks' : List Byte}
    (h : takeBytes cfg m st = some (ks, st₁)) (h' : takeBytes cfg n st₁ = some (ks', st₂)) :
    takeBytes cfg (m + n) st = some (ks ++ ks', st₂) := by
  induction m generalizing st ks with
  | zero => cases h; rw [Nat.zero_add]; exact h'
  | succ m ih =>
    obtain ⟨b, st', bs, hb, hrest, rfl⟩ := takeBytes_succ_cases h
    rw [Nat.add_right_comm]
    exact takeBytes_succ_some hb (ih hrest)

/-- Whole blocks before others are transformed as they are alone (40_contract.md R91). -/
theorem blkBlocks_append (rom : Rom) (st : BlkState) {x : List Byte} (hx : x.length % 16 = 0) (y : List Byte) :
    blkBlocks rom st (x ++ y) = blkBlocks rom st x ++ blkBlocks rom st y := by
  have hcount : (x ++ y).length / 16 = x.length / 16 + y.length / 16 := by rw [List.length_append]; omega
  simp only [blkBlocks, hcount, List.range_add, List.flatMap_append, List.flatMap_map]
  refine congrArg₂ (· ++ ·) (List.flatMap_congr fun q hq => ?_) (List.flatMap_congr fun q _ => ?_)
  · have hq := List.mem_range.mp hq
    rw [List.drop_append_of_le_length (by omega), List.take_append_of_le_length (by rw [List.length_drop]; omega)]
  · have hskip : 16 * (x.length / 16 + q) = x.length + 16 * q := by omega
    rw [hskip, ← List.drop_drop, List.drop_left]

/-- The transform of input in two portions (40_contract.md R99). -/
theorem transform_append {cfg : Config} {x y o₁ o₂ : List Byte} {cur cur₁ cur₂ : CipherState}
    (h₁ : cur.transform cfg x = some (o₁, cur₁)) (h₂ : cur₁.transform cfg y = some (o₂, cur₂)) :
    cur.transform cfg (x ++ y) = some (o₁ ++ o₂, cur₂) := by
  cases cur with
  | stream st =>
    obtain ⟨ks, st₁, htake, rfl, rfl⟩ := of_transform_stream h₁
    obtain ⟨ks', st₂, htake', rfl, rfl⟩ := of_transform_stream h₂
    rw [transform_stream (List.length_append ▸ takeBytes_add htake htake')]
    simp only [xorBytes, List.zipWith_append (takeBytes_length htake).symm]
  | blk st =>
    obtain ⟨hlen, rfl, rfl⟩ := of_transform_blk h₁
    obtain ⟨hlen', rfl, rfl⟩ := of_transform_blk h₂
    rw [transform_blk (by rw [List.length_append]; omega), blkBlocks_append _ _ hlen]

/-- Offsets within a buffer add up without wrapping (20_memory.md R54). -/
theorem toNat_add_of_fits {a b : Word} (h : a.toNat + b.toNat ≤ 65536) : (a + b).toNat = a.toNat + b.toNat := by
  rw [BitVec.toNat_add, Nat.mod_eq_of_lt (by omega)]

/-- Two adjacent portions within the buffers are one portion within them, and no offset wraps (20_memory.md R54). -/
theorem rangesFit_of_portions {s u : State} {inOff n₁ n₂ outOff : Word} (hcfg : s.cfg.InRange) (hu : u.cfg = s.cfg)
    (h₁ : (s.withArgs inOff n₁ outOff).rangesFit = true)
    (h₂ : (u.withArgs (inOff + n₁) n₂ (outOff + n₁)).rangesFit = true) :
    (s.withArgs inOff (n₁ + n₂) outOff).rangesFit = true ∧ (inOff + n₁).toNat = inOff.toNat + n₁.toNat ∧
      (outOff + n₁).toNat = outOff.toNat + n₁.toNat ∧ (n₁ + n₂).toNat = n₁.toNat + n₂.toNat := by
  simp only [rangesFit_iff, State.inOff, State.len, State.outOff, withArgs_arg0, withArgs_arg1, withArgs_arg2, withArgs_cfg,
    hu] at h₁ h₂ ⊢
  have hibuf := hcfg.ibuf_le
  have hobuf := hcfg.obuf_le
  have hin : (inOff + n₁).toNat = inOff.toNat + n₁.toNat := toNat_add_of_fits (by omega)
  have hout : (outOff + n₁).toNat = outOff.toNat + n₁.toNat := toNat_add_of_fits (by omega)
  have hlen : (n₁ + n₂).toNat = n₁.toNat + n₂.toNat := toNat_add_of_fits (by omega)
  omega

/-- Bytes written in two adjacent portions are the bytes written at once. -/
theorem ite_byteAt_append (x y : List Byte) (base a : Nat) (old : Byte) :
    (if base ≤ a ∧ a < base + (x ++ y).length then byteAt (x ++ y) (a - base) else old) =
      if base + x.length ≤ a ∧ a < base + x.length + y.length then byteAt y (a - (base + x.length))
      else if base ≤ a ∧ a < base + x.length then byteAt x (a - base) else old := by
  rw [byteAt_append, List.length_append, Nat.sub_sub]
  grind

/-- Settles O40: the transform of the whole input is that of its two portions. -/
theorem chunkSizeIndependence : Obligations.ChunkSizeIndependence := by
  unfold Obligations.ChunkSizeIndependence
  intro s t₁ t₂ c inOff n₁ n₂ outOff hcfg h₁ hok₁ h₂ hok₂
  have he₁ := commandEffect_of_exec h₁
  have hcfg₁ : t₁.cfg = s.cfg := he₁.fields_eq.1
  have hinput₁ (a : Nat) : t₁.readByte .ibuf a = s.readByte .ibuf a :=
    (he₁.readByte_input (by decide) a).trans (withArgs_readByte ..)
  obtain ⟨cur, rst, o₁, cur₁, hc, hfit₁, hx, ht₁, heq₁⟩ := transform_of_execProcess h₁ hok₁
  obtain ⟨cur', rst', o₂, cur₂, -, hfit₂, hx₂, ht₂, heq₂⟩ := transform_of_execProcess h₂ hok₂
  have hx₁ : t₁.context c = .ready cur₁ rst := heq₁ ▸ context_after_process hx _ _ _
  obtain ⟨rfl, rfl⟩ := Context.ready.inj (hx₁.symm.trans hx₂)
  obtain ⟨hfit, hin, hout, hlen⟩ := rangesFit_of_portions hcfg hcfg₁ hfit₁ hfit₂
  rw [inputBytes_withArgs] at ht₁
  rw [inputBytes_withArgs, hin, readBytes_congr fun k _ => hinput₁ _, withArgs_cfg, hcfg₁] at ht₂
  have ht := transform_append ht₁ ht₂
  rw [← readBytes_add, ← hlen, ← inputBytes_withArgs s inOff (n₁ + n₂) outOff] at ht
  have hlen₁ := (transform_length ht₁).trans (readBytes_length ..)
  refine ⟨_, execProcess_of_transform (s := s.withArgs inOff (n₁ + n₂) outOff) hc hfit hx ht, statusClass_done _ _ _, rfl,
    ?_, fun a => ?_⟩
  · exact (context_after_process (s := s.withArgs inOff (n₁ + n₂) outOff) hx _ _ _).trans
      (heq₂ ▸ context_after_process hx₂ _ _ _).symm
  · rw [heq₂, readByte_after_process, readByte_after_process, withArgs_readByte, withArgs_readByte, heq₁,
      readByte_after_process, withArgs_readByte]
    simp only [State.outOff, withArgs_arg2, hout, ← hlen₁]
    exact ite_byteAt_append o₁ o₂ _ a _

/-- Settles O41. -/
theorem streamDecryptsWhatItEncrypts : Obligations.StreamDecryptsWhatItEncrypts := by
  unfold Obligations.StreamDecryptsWhatItEncrypts
  intro s s' t t' c d st rst rst' hcfg harg1 hx hx' hexec hok hinput hexec' hok'
  obtain ⟨ks, st₁, htake, hout⟩ := readByte_of_processStream hx hexec hok
  obtain ⟨ks', st₁', htake', hout'⟩ := readByte_of_processStream hx' hexec' hok'
  have hlen : s'.len = s.len := congrArg BitVec.toNat harg1.symm
  rw [← hcfg, hlen, htake] at htake'
  cases htake'
  intro i hi
  calc t'.readByte .obuf (s'.outOff + i)
    _ = s'.readByte .ibuf (s'.inOff + i) ^^^ byteAt ks i := hout' i (hlen ▸ hi)
    _ = t.readByte .obuf (s.outOff + i) ^^^ byteAt ks i := congrArg (· ^^^ byteAt ks i) (hinput i hi)
    _ = s.readByte .ibuf (s.inOff + i) ^^^ byteAt ks i ^^^ byteAt ks i := by rw [hout i hi]
    _ = s.readByte .ibuf (s.inOff + i) := by rw [BitVec.xor_assoc, BitVec.xor_self, BitVec.xor_zero]

end Sys2Proof.Machine
end

section
/-!
SUPPORT. The logical keystream (40_contract.md R90, R92, R104): which buffer a byte comes from, on the four stream engines in
one, and how many bytes an engine can give.
-/

namespace Sys2Proof.Machine

/-- A stream engine as a buffer of `len` bytes: `mk` makes a CipherState of the engine's registers, `gen` fills the buffer
anew whatever was in it, and `adv` moves the cursor on. -/
structure BufferedEngine {σ : Type} (cfg : Config) (len : Nat) (mk : σ → StreamState) (buf : σ → KeystreamBuffer)
    (gen adv : σ → σ) : Prop where
  next_cases : ∀ {st b out}, nextByte cfg (mk st) = some (b, out) →
    ((buf st).idx ≠ len ∧ b = (buf st).head ∧ out = mk (adv st)) ∨
    ((buf st).idx = len ∧ b = (buf (gen st)).head ∧ out = mk (adv (gen st)))
  buf_adv : ∀ st, buf (adv st) = (buf st).advance
  gen_idx : ∀ st, (buf (gen st)).idx = 0
  gen_adv : ∀ st, gen (adv st) = gen st

namespace BufferedEngine

section
variable {σ : Type} {cfg : Config} {len : Nat} {mk : σ → StreamState} {buf : σ → KeystreamBuffer} {gen adv : σ → σ}

/-- Moving the cursor on changes neither the buffer's bytes nor what later generations fill it with. -/
theorem ks_iterate_adv (he : BufferedEngine cfg len mk buf gen adv) (k : Nat) (st : σ) :
    (buf (gen^[k] (adv st))).ks = (buf (gen^[k] st)).ks := by
  cases k with
  | zero => exact (congrArg KeystreamBuffer.ks (he.buf_adv st) :)
  | succ k => rw [Function.iterate_succ_apply, Function.iterate_succ_apply, he.gen_adv]

/-- Byte `i` taken from cursor position `p` is byte `(p + i) mod len` of the buffer that generation `(p + i) / len` fills,
the 0th being the buffer at hand (40_contract.md R90). -/
theorem byteAt_takeBytes (he : BufferedEngine cfg len mk buf gen adv) (hlen : 0 < len) {n : Nat} {st : σ}
    {out : StreamState} {ks : List Byte} (hidx : (buf st).idx ≤ len) (h : takeBytes cfg n (mk st) = some (ks, out))
    {i : Nat} (hi : i < n) :
    byteAt ks i = byteAt (buf (gen^[((buf st).idx + i) / len] st)).ks (((buf st).idx + i) % len) := by
  induction n generalizing st ks i with
  | zero => cases hi
  | succ n ih =>
    obtain ⟨b, st', bs, hb, hrest, rfl⟩ := takeBytes_succ_cases h
    rcases he.next_cases hb with ⟨hne, rfl, rfl⟩ | ⟨heq, rfl, rfl⟩
    · have hlt : (buf st).idx < len := Nat.lt_of_le_of_ne hidx hne
      cases i with
      | zero =>
        rw [Nat.add_zero, Nat.div_eq_of_lt hlt, Nat.mod_eq_of_lt hlt]
        rfl
      | succ i =>
        have hcursor : (buf (adv st)).idx = (buf st).idx + 1 := by rw [he.buf_adv]; rfl
        have hbyte := ih (by omega) hrest (Nat.lt_of_succ_lt_succ hi)
        rw [hcursor, he.ks_iterate_adv, Nat.add_assoc, Nat.add_comm 1 i] at hbyte
        exact hbyte
    · rw [heq, Nat.add_mod_left, Nat.add_div_left _ hlen, Function.iterate_succ_apply]
      cases i with
      | zero =>
        rw [Nat.zero_div, Nat.zero_mod]
        exact congrArg (byteAt (buf (gen st)).ks) (he.gen_idx st)
      | succ i =>
        have hcursor : (buf (adv (gen st))).idx = 1 := by rw [he.buf_adv, KeystreamBuffer.advance, he.gen_idx]
        have hbyte := ih (by omega) hrest (Nat.lt_of_succ_lt_succ hi)
        rw [hcursor, he.ks_iterate_adv, Nat.add_comm 1 i] at hbyte
        exact hbyte

/-- From a buffer that is used up (40_contract.md R90). -/
theorem byteAt_takeBytes_of_empty (he : BufferedEngine cfg len mk buf gen adv) (hlen : 0 < len) {n : Nat} {st : σ}
    {out : StreamState} {ks : List Byte} (hidx : (buf st).idx = len) (h : takeBytes cfg n (mk st) = some (ks, out))
    {i : Nat} (hi : i < n) : byteAt ks i = byteAt (buf (gen^[i / len + 1] st)).ks (i % len) := by
  rw [he.byteAt_takeBytes hlen hidx.le h hi, hidx, Nat.add_mod_left, Nat.add_div_left _ hlen]

end

/-- An LF engine: a constructor `mk` whose `NextByte` is a refill within a limit and one step of the cursor. -/
theorem lf {cfg : Config} {max : Nat} {mk : LfState → StreamState}
    (hmk : ∀ st, nextByte cfg (mk st) =
      (lfRefill cfg.rom max st).map fun t => (t.buf.head, mk { t with buf := t.buf.advance })) :
    BufferedEngine cfg 4 mk LfState.buf (lfWord cfg.rom) fun st => { st with buf := st.buf.advance } where
  next_cases := fun {st} _ _ h => by
    rw [hmk] at h
    obtain ⟨t, ht, heq⟩ := Option.map_eq_some_iff.mp h
    obtain ⟨rfl, rfl⟩ := Prod.mk.inj heq
    rcases lfRefill_cases ht with ⟨hne, rfl⟩ | ⟨hidx, -, rfl⟩
    · exact .inl ⟨hne, rfl, rfl⟩
    · exact .inr ⟨hidx, rfl, rfl⟩
  buf_adv := fun _ => rfl
  gen_idx := fun _ => rfl
  gen_adv := fun _ => rfl

theorem ctr (cfg : Config) :
    BufferedEngine cfg 16 .ctr CtrState.buf (ctrGenerate cfg.rom) fun st => { st with buf := st.buf.advance } where
  next_cases := fun {st} _ _ h => by
    cases h
    by_cases hidx : st.buf.idx = 16
    · rw [ctrRefill, if_pos hidx]; exact .inr ⟨hidx, rfl, rfl⟩
    · rw [ctrRefill, if_neg hidx]; exact .inl ⟨hidx, rfl, rfl⟩
  buf_adv := fun _ => rfl
  gen_idx := fun _ => rfl
  gen_adv := fun _ => rfl

theorem srp (cfg : Config) :
    BufferedEngine cfg 80 .srp SrpState.buf (srpGenerate cfg.rom) fun st => { st with buf := st.buf.advance } where
  next_cases := fun {st} _ _ h => by
    cases h
    by_cases hidx : st.buf.idx = 80
    · rw [srpRefill, if_pos hidx]; exact .inr ⟨hidx, rfl, rfl⟩
    · rw [srpRefill, if_neg hidx]; exact .inl ⟨hidx, rfl, rfl⟩
  buf_adv := fun _ => rfl
  gen_idx := fun _ => rfl
  gen_adv := fun _ => rfl

end BufferedEngine

/-- Settles O39: each engine is a buffered engine. -/
theorem logicalKeystream : Obligations.LogicalKeystream := by
  unfold Obligations.LogicalKeystream
  refine ⟨fun cfg n st st' ks hidx h i hi => ?_, fun cfg n st st' ks hidx h i hi => ?_,
    fun cfg n st st' ks hidx h i hi => ?_, fun cfg n st st' ks hidx h i hi => ?_⟩
  · exact (BufferedEngine.lf (max := cfg.lfMax128) fun _ => rfl).byteAt_takeBytes_of_empty (by decide) hidx h hi
  · exact (BufferedEngine.lf (max := cfg.lfMax256) fun _ => rfl).byteAt_takeBytes_of_empty (by decide) hidx h hi
  · exact (BufferedEngine.ctr cfg).byteAt_takeBytes_of_empty (by decide) hidx h hi
  · exact (BufferedEngine.srp cfg).byteAt_takeBytes_of_empty (by decide) hidx h hi

/-! ### How many bytes there are -/

/-- `n + 1` bytes can be taken when `n` can after the first. -/
theorem takeBytes_succ_isSome {cfg : Config} (n : Nat) {st st' : StreamState} {b : Byte}
    (h : nextByte cfg st = some (b, st')) :
    (takeBytes cfg (n + 1) st).isSome = (takeBytes cfg n st').isSome := by
  simp only [takeBytes, h]
  cases takeBytes cfg n st' <;> rfl

/-- Where there is no next byte there are no `n + 1` bytes. -/
theorem takeBytes_succ_none {cfg : Config} (n : Nat) {st : StreamState} (h : nextByte cfg st = none) :
    takeBytes cfg (n + 1) st = none := by
  simp only [takeBytes, h]

/-- An engine whose `NextByte` always answers never runs out. -/
theorem takeBytes_isSome {σ : Type} {cfg : Config} {mk : σ → StreamState}
    (h : ∀ st, ∃ b st', nextByte cfg (mk st) = some (b, mk st')) (n : Nat) (st : σ) :
    (takeBytes cfg n (mk st)).isSome = true := by
  induction n generalizing st with
  | zero => rfl
  | succ n ih =>
    obtain ⟨b, st', hb⟩ := h st
    rw [takeBytes_succ_isSome n hb, ih]

/-- An LF engine gives the bytes left in its buffer and four for every word left of its budget (40_contract.md R104). -/
theorem takeBytes_lf_isSome {cfg : Config} {max : Nat} {mk : LfState → StreamState}
    (hmk : ∀ st, nextByte cfg (mk st) =
      (lfRefill cfg.rom max st).map fun t => (t.buf.head, mk { t with buf := t.buf.advance }))
    {n : Nat} {st : LfState} (hidx : st.buf.idx ≤ 4) (hiter : st.iter ≤ max) :
    (takeBytes cfg n (mk st)).isSome = true ↔ n ≤ (4 - st.buf.idx) + 4 * (max - st.iter) := by
  induction n generalizing st with
  | zero => simp
  | succ n ih =>
    have hnext {t : LfState} (h : lfRefill cfg.rom max st = some t) (hcursor : t.buf.idx + 1 ≤ 4) (hcount : t.iter ≤ max) :
        (takeBytes cfg (n + 1) (mk st)).isSome = true ↔ n ≤ (4 - (t.buf.idx + 1)) + 4 * (max - t.iter) := by
      rw [takeBytes_succ_isSome n (b := t.buf.head) (by rw [hmk, h]; rfl)]
      exact ih (st := { t with buf := t.buf.advance }) hcursor hcount
    by_cases hfour : st.buf.idx = 4
    · by_cases hlimit : max ≤ st.iter
      · have hnone : nextByte cfg (mk st) = none := by
          rw [hmk, lfRefill, if_pos hfour, lfGenerate, if_pos hlimit]
          rfl
        simp only [takeBytes_succ_none n hnone, Option.isSome_none, Bool.false_eq_true, false_iff]
        omega
      · have hword : lfRefill cfg.rom max st = some (lfWord cfg.rom st) := by
          rw [lfRefill, if_pos hfour, lfGenerate, if_neg hlimit]
        rw [hnext hword (show 0 + 1 ≤ 4 by decide) (Nat.lt_of_not_le hlimit)]
        simp only [lfWord]
        omega
    · rw [hnext (by rw [lfRefill, if_neg hfour]) (by omega) hiter]
      omega

/-- Settles O37. -/
theorem exhaustionBound : Obligations.ExhaustionBound := by
  unfold Obligations.ExhaustionBound
  exact ⟨fun _ _ _ hidx hiter => takeBytes_lf_isSome (fun _ => rfl) hidx hiter,
    fun _ _ _ hidx hiter => takeBytes_lf_isSome (fun _ => rfl) hidx hiter,
    fun _ => takeBytes_isSome fun _ => ⟨_, _, rfl⟩, fun _ => takeBytes_isSome fun _ => ⟨_, _, rfl⟩⟩

end Sys2Proof.Machine
end

section
/-!
SUPPORT. INIT where it succeeds, engine by engine; that it forgets what the context held; and the direction of BLK
(40_contract.md R84, R86, R87).
-/

namespace Sys2Proof.Machine

/-! ### The five engines -/

/-- The check passes on a stream engine with a key and an IV of accepted lengths (40_contract.md R85). -/
theorem configCheck_stream {eng : Engine} {a : InitOperands} (heng : eng ≠ .blk) (hkey : a.hasKey = true)
    (hklen : a.klen.toNat ∈ acceptedKeyLengths eng) (hiv : a.hasIv = true)
    (hivlen : a.ivlen.toNat ∈ acceptedIvLengths eng) : configCheck eng a = none :=
  (configCheck_eq_none_iff eng a).mpr ⟨hkey, hklen, .inr ⟨heng, hiv, hivlen⟩⟩

/-- INIT whose check passes, by the CipherState that the engine's set-up comes to (40_contract.md R84). -/
theorem exec_initOf_of_setupOf_eq {s : State} {eng : Engine} {c : BitVec 4} {a : InitOperands} {st : CipherState}
    (hc : s.hasContext c) (hx : (s.context c).Alive) (hcheck : configCheck eng a = none) (hst : setupOf eng a s = st) :
    exec (initOf eng c a) s = .next ((s.setContext c (.ready st st)).done (initOf eng c a) 0) :=
  hst ▸ exec_initOf_of_check_none hc hx hcheck

/-- Settles O23. -/
theorem initLf128Completes : Obligations.InitLf128Completes := by
  unfold Obligations.InitLf128Completes
  intro s c a hc hx hkey hklen hiv hivlen
  have hklen : a.klen.toNat = 16 := congrArg BitVec.toNat hklen
  have hivlen : a.ivlen.toNat = 16 := congrArg BitVec.toNat hivlen
  have hcheck := configCheck_stream (eng := .lf128) nofun hkey (by rw [hklen]; decide) hiv (by rw [hivlen]; decide)
  refine exec_initOf_of_setupOf_eq hc hx hcheck ?_
  simp only [setupOf, setupLf128, State.keyBytes, State.ivBytes, hklen, hivlen, lfInit128, lfSetup, lfLoaded]

/-- Settles O24. -/
theorem initLf256Completes : Obligations.InitLf256Completes := by
  unfold Obligations.InitLf256Completes
  intro s c a hc hx hkey hklen hiv hivlen
  have hklen : a.klen.toNat = 32 := congrArg BitVec.toNat hklen
  have hivlen : a.ivlen.toNat = 25 := congrArg BitVec.toNat hivlen
  have hcheck := configCheck_stream (eng := .lf256) nofun hkey (by rw [hklen]; decide) hiv (by rw [hivlen]; decide)
  refine exec_initOf_of_setupOf_eq hc hx hcheck ?_
  simp only [setupOf, setupLf256, State.keyBytes, State.ivBytes, hklen, hivlen, lfInit256, lfSetup, lfLoaded]

/-- Settles O25. -/
theorem initCtrCompletes : Obligations.InitCtrCompletes := by
  unfold Obligations.InitCtrCompletes
  intro s c a hc hx hkey hklen hiv hivlen
  have hklen : a.klen.toNat = 16 := congrArg BitVec.toNat hklen
  have hivlen : a.ivlen.toNat = 8 := congrArg BitVec.toNat hivlen
  have hcheck := configCheck_stream (eng := .ctr) nofun hkey (by rw [hklen]; decide) hiv (by rw [hivlen]; decide)
  refine exec_initOf_of_setupOf_eq hc hx hcheck ?_
  simp only [setupOf, setupCtr, State.keyBytes, State.ivBytes, hklen, hivlen, ctrInit, ctrKeySetup, ctrIvSetup]

/-- Settles O26. -/
theorem initSrpCompletes : Obligations.InitSrpCompletes := by
  unfold Obligations.InitSrpCompletes
  intro s c a hc hx hkey hlo hhi hiv hivlen rom sk
  have hcheck : configCheck .srp a = none :=
    configCheck_stream nofun hkey (List.mem_range'_1.mpr ⟨hlo, by omega⟩) hiv (List.mem_range.mpr (by omega))
  exact ⟨_, exec_initOf_of_check_none hc hx hcheck, rfl, rfl, srpKeySchedule_length _ _, rfl⟩

/-- The first and the last decryption subkey are the last and the first encryption subkey (45_block_cipher.md R157). -/
theorem blkInvKeys_end (rom : Rom) {ke : List (Vector Word 4)} {rounds r : Nat} (hlen : ke.length = rounds + 1)
    (hr : r = 0 ∨ r = rounds) : (blkInvKeys rom ke rounds)[r]? = ke[rounds - r]? := by
  have hlt : r < rounds + 1 := by omega
  have hsub : rounds - r < ke.length := by omega
  simp only [blkInvKeys, List.getElem?_map, List.getElem?_range hlt, Option.map_some, if_pos hr, subkeyAt,
    List.getD_eq_getElem _ _ hsub, List.getElem?_eq_getElem hsub]

/-- Settles O27. -/
theorem initBlkCompletes : Obligations.InitBlkCompletes := by
  unfold Obligations.InitBlkCompletes
  intro s c a hc hx hkey hklen hiv
  have hlen : a.klen.toNat = 16 ∨ a.klen.toNat = 24 ∨ a.klen.toNat = 32 := by
    rcases hklen with h | h | h <;> simp [h]
  have hcheck : configCheck .blk a = none :=
    (configCheck_eq_none_iff .blk a).mpr ⟨hkey, by simpa [acceptedKeyLengths] using hlen, .inl ⟨rfl, hiv⟩⟩
  have hwf := blkInit_wf s.cfg.rom (key := s.keyBytes a) a.dir (by rw [State.keyBytes, readBytes_length]; exact hlen)
  refine ⟨_, exec_initOf_of_check_none hc hx hcheck, rfl, rfl, ?_, hwf.r_eq, hwf.ke_length, hwf.kd_length,
    blkInvKeys_end _ hwf.ke_length (.inl rfl), ?_⟩
  · simp only [blkInit, State.keyBytes, readBytes_length]
    omega
  · exact (blkInvKeys_end _ hwf.ke_length (.inr rfl)).trans (by rw [Nat.sub_self])

/-! ### What the context held -/

/-- What INIT installs does not come from the contexts (40_contract.md R87). -/
theorem setupOf_setContext (s : State) (eng : Engine) (a : InitOperands) (c : BitVec 4) (x : Context) :
    setupOf eng a (s.setContext c x) = setupOf eng a s := by
  cases eng <;> rfl

/-- A context killed is DEAD whatever stood there before. -/
theorem killedWith_setContext (s : State) (i : Instr) (c : BitVec 4) (x : Context) (e : TerminalError) :
    (s.setContext c x).killedWith i c e = s.killedWith i c e :=
  congrArg (fun u => State.report u _ 0) (setContext_setContext_same (s.latch (encode i)) c x (.dead e))

/-- Settles O30: the context is overwritten, and nothing else of the outcome comes from it. -/
theorem initForgetsTheOldInstance : Obligations.InitForgetsTheOldInstance := by
  unfold Obligations.InitForgetsTheOldInstance
  intro eng c a s x y hc hx hy
  by_cases hlen : c.toNat < s.ctx.length
  · rw [← context_setContext_same s hlen x] at hx
    rw [← context_setContext_same s hlen y] at hy
    cases hcheck : configCheck eng a with
    | some e =>
      rw [exec_initOf_of_check_some (s := s.setContext c x) hc hx hcheck,
        exec_initOf_of_check_some (s := s.setContext c y) hc hy hcheck, killedWith_setContext,
        killedWith_setContext]
    | none =>
      rw [exec_initOf_of_check_none (s := s.setContext c x) hc hx hcheck,
        exec_initOf_of_check_none (s := s.setContext c y) hc hy hcheck, setupOf_setContext,
        setupOf_setContext, setContext_setContext_same, setContext_setContext_same]
  · have hsame (z : Context) : s.setContext c z = s := by
      simp only [State.setContext, List.set_eq_of_length_le (Nat.le_of_not_lt hlen)]
    rw [hsame x, hsame y]

/-! ### The direction -/

/-- The bit `DIR` of CTXSTAT (10_state.md R44). -/
theorem ctxStatWord_dir (life : BitVec 2) (eng : BitVec 4) (dir : Bool) (dclass : BitVec 2) (dcode : BitVec 4) :
    (ctxStatWord life eng dir dclass dcode).getLsbD 8 = dir :=
  (BitVec.getLsbD_append (x := 0#12 ++ dcode ++ 0#2 ++ dclass ++ 0#3 ++ BitVec.ofBool dir ++ eng ++ 0#2)
    (y := life)).trans (by simp only [BitVec.getLsbD_append]; simp)

/-- `DIR` is no operand of a stream engine (40_contract.md R86). -/
theorem setupOf_with_dir {eng : Engine} (heng : eng ≠ .blk) (a : InitOperands) (d : Bool) (s : State) :
    setupOf eng { a with dir := d } s = setupOf eng a s := by
  cases eng with
  | blk => exact absurd rfl heng
  | lf128 | lf256 | ctr | srp => rfl

@[simp] theorem refusedWith_ctx (s : State) (i : Instr) (e : UsageError) : (s.refusedWith i e).ctx = s.ctx := rfl

/-- Two INITs of a stream engine that differ in `DIR` (40_contract.md R86). -/
theorem execInit_with_dir {eng : Engine} (heng : eng ≠ .blk) {c : BitVec 4} {a : InitOperands} {d : Bool} {s t t' : State}
    (h : exec (initOf eng c a) s = .next t) (h' : exec (initOf eng c { a with dir := d }) s = .next t') :
    t.ctx = t'.ctx := by
  rcases execInit_cases s eng c a with ⟨hc, hs⟩ | ⟨hc, ⟨e, hx⟩, hs⟩ | ⟨hc, hx, e, hcheck, hs⟩ | ⟨hc, hx, hcheck, hs⟩ <;>
    obtain rfl := Host.Outcome.next.inj (hs.symm.trans h)
  · obtain rfl := Host.Outcome.next.inj ((exec_initOf_of_no_context hc).symm.trans h')
    rw [refusedWith_ctx, refusedWith_ctx]
  · obtain rfl := Host.Outcome.next.inj ((exec_initOf_of_dead hc hx).symm.trans h')
    rw [refusedWith_ctx, refusedWith_ctx]
  · obtain rfl := Host.Outcome.next.inj
      ((exec_initOf_of_check_some (a := { a with dir := d }) hc hx hcheck).symm.trans h')
    rw [killedWith_ctx, killedWith_ctx]
  · obtain rfl := Host.Outcome.next.inj
      ((exec_initOf_of_check_none (a := { a with dir := d }) hc hx hcheck).symm.trans h')
    rw [done_ctx, done_ctx, setupOf_with_dir heng a d]

/-- An INIT that succeeds installs what the engine's set-up gives (40_contract.md R84). -/
theorem context_of_init {eng : Engine} {c : BitVec 4} {a : InitOperands} {s t : State} (hlen : s.ctx.length = s.cfg.nctx)
    (hexec : exec (initOf eng c a) s = .next t) (hok : statusClass t.status = 0) :
    t.context c = .ready (setupOf eng a s) (setupOf eng a s) := by
  rcases execInit_cases s eng c a with ⟨-, h⟩ | ⟨-, -, h⟩ | ⟨-, -, e, -, h⟩ | ⟨hc, -, -, h⟩ <;>
    obtain rfl := Host.Outcome.next.inj (h.symm.trans hexec)
  · simp at hok
  · simp at hok
  · simp [TerminalError.cls] at hok
  · rw [done_context, context_setContext_same s (hlen ▸ hc)]

/-- A BLK context keeps its CipherState, or returns to its reset image, under every command but INIT, RESTORE and DROP
(45_block_cipher.md R161, 40_contract.md R94). -/
theorem context_of_blk {i : Instr} {s t : State} {c : BitVec 4} {st : BlkState} {rst : CipherState}
    (hx : s.context c = .ready (.blk st) rst) (hexec : exec i s = .next t)
    (hi : i.ctxOf = c → ¬ i.IsInit ∧ (∀ k, i ≠ .restore c k) ∧ i ≠ .drop c) :
    t.context c = .ready (.blk st) rst ∨ t.context c = .ready rst rst := by
  have he := commandEffect_of_exec hexec
  by_cases hctx : c = i.ctxOf
  · obtain ⟨hinit, hrestore, hdrop⟩ := hi hctx.symm
    subst hctx
    cases i with
    | initLf128 d a => exact absurd ⟨.lf128, d, a, rfl⟩ hinit
    | initLf256 d a => exact absurd ⟨.lf256, d, a, rfl⟩ hinit
    | initCtr d a => exact absurd ⟨.ctr, d, a, rfl⟩ hinit
    | initSrp d a => exact absurd ⟨.srp, d, a, rfl⟩ hinit
    | initBlk d a => exact absurd ⟨.blk, d, a, rfl⟩ hinit
    | process d =>
      rcases execProcess_cases s d with ⟨-, h⟩ | ⟨-, -, h⟩ | ⟨-, -, h⟩ | ⟨-, -, h⟩ | ⟨-, -, _, _, -, -, h⟩ |
        ⟨-, -, _, _, hx', -⟩ | ⟨-, -, _, _, _, _, hx', -⟩
      case inr.inr.inr.inr.inr.inl | inr.inr.inr.inr.inr.inr => cases hx.symm.trans hx'
      all_goals
        cases h.symm.trans hexec
        exact .inl (by simpa using hx)
    | retbyte d b =>
      rcases execRetbyte_cases s d b with ⟨-, h⟩ | ⟨-, -, h⟩ | ⟨-, -, h⟩ | ⟨-, -, h⟩ | ⟨-, _, _, hx', -⟩ |
        ⟨-, _, _, _, _, hx', -⟩
      case inr.inr.inr.inr.inl | inr.inr.inr.inr.inr => cases hx.symm.trans hx'
      all_goals
        cases h.symm.trans hexec
        exact .inl hx
    | reset d =>
      rcases execReset_cases s d with ⟨-, h⟩ | ⟨-, -, h⟩ | ⟨-, -, h⟩ | ⟨-, _, _, hx', h⟩ <;>
        obtain rfl := Host.Outcome.next.inj (h.symm.trans hexec)
      case inr.inr.inr =>
        cases hx.symm.trans hx'
        exact .inr (context_setContext_same s (lt_length_of_ready s hx) _)
      all_goals exact .inl hx
    | snapshot d k => exact .inl ((he.context_snapshot d).trans hx)
    | restore d k => exact absurd rfl (hrestore k)
    | drop d => exact absurd rfl hdrop
  · exact .inl ((he.context_ne hctx).trans hx)

/-- Settles O29. -/
theorem dirIgnoredByStreamEngines : Obligations.DirIgnoredByStreamEngines := by
  unfold Obligations.DirIgnoredByStreamEngines
  refine ⟨fun eng c a d s t t' heng h h' => execInit_with_dir heng h h', fun st rst => ctxStatWord_dir _ _ _ _ _,
    fun st rst => ctxStatWord_dir _ _ _ _ _, fun c a s t hinv hexec hok => ?_, fun i c s t st rst hinv hx hexec hi => ?_⟩
  · exact ⟨_, context_of_init (eng := .blk) hinv.ctx_length hexec hok, rfl⟩
  · obtain rfl : .blk st = rst := (hinv.instance_of_ready hx).blk_at_image rfl
    rcases context_of_blk hx hexec hi with h | h <;> exact ⟨st, _, h, rfl⟩

end Sys2Proof.Machine
end

section
/-!
SUPPORT. Two contexts that hold equal instances answer every command alike (40_contract.md R101). What a command does is cut
in two: its `Answer`, which is decided by what twins share, and the bytes of `OBUF` with the counter of free values (log 3).
-/

namespace Sys2Proof.Machine

/-! ### The answer of a command -/

/-- What a command does to its context, the slots, STATUS and RESULT. -/
inductive Answer where
  | refused (e : UsageError)
  | killed (e : TerminalError)
  | context (x : Context) (result : Word)
  | slot (k : BitVec 4) (x : Option Snapshot)

/-- The state after command `i` on context `c` by its answer. -/
def State.after (s : State) (i : Instr) (c : BitVec 4) : Answer → State
  | .refused e => s.refusedWith i e
  | .killed e => s.killedWith i c e
  | .context x result => (s.setContext c x).done i result
  | .slot k x => (s.setSnapshot k x).done i 0

/-- Command `i` on context `c` ends as the answer says, whatever it leaves in `OBUF` and in the counter of free values. -/
def Answers (i : Instr) (c : BitVec 4) (s : State) (r : Answer) : Prop :=
  ∃ m n, exec i s = .next (({ s with obuf := m, freeCount := n } : State).after i c r)

/-- A command that touches neither `OBUF` nor the counter. -/
theorem Answers.of_exec {i : Instr} {c : BitVec 4} {s : State} {r : Answer} (h : exec i s = .next (s.after i c r)) :
    Answers i c s r := ⟨s.obuf, s.freeCount, h⟩

@[simp] theorem statusCode_refusedWith (s : State) (i : Instr) (e : UsageError) :
    statusCode (s.refusedWith i e).status = e.code := statusCode_statusWord _ _ _

@[simp] theorem statusCode_killedWith (s : State) (i : Instr) (c : BitVec 4) (e : TerminalError) :
    statusCode (s.killedWith i c e).status = e.code := statusCode_statusWord _ _ _

@[simp] theorem statusCode_done (s : State) (i : Instr) (r : Word) : statusCode (s.done i r).status = 0 :=
  statusCode_statusWord _ _ _

/-! ### What twins share -/

section
variable {c d : BitVec 4} {s s' : State}

namespace Twins

theorem context_there (h : Twins c d s s') {x : Context} (hx : s.context c = x) : s'.context d = x := h.context_eq ▸ hx

theorem readByte_eq (h : Twins c d s s') {buf : Buffer} (hbuf : buf ≠ .obuf) (a : Nat) :
    s.readByte buf a = s'.readByte buf a := readByte_congr (h.mem_eq buf hbuf) a

theorem args_toNat (h : Twins c d s s') : s.inOff = s'.inOff ∧ s.len = s'.len ∧ s.outOff = s'.outOff := by
  obtain ⟨h0, h1, h2⟩ := h.args_eq
  exact ⟨congrArg BitVec.toNat h0, congrArg BitVec.toNat h1, congrArg BitVec.toNat h2⟩

theorem inputBytes_eq (h : Twins c d s s') : s.inputBytes = s'.inputBytes := by
  obtain ⟨hin, hlen, -⟩ := h.args_toNat
  simp only [State.inputBytes, hin, hlen]
  exact readBytes_congr fun _ _ => h.readByte_eq (by decide) _

theorem rangesFit_eq (h : Twins c d s s') : s.rangesFit = s'.rangesFit := by
  obtain ⟨hin, hlen, hout⟩ := h.args_toNat
  simp only [State.rangesFit, hin, hlen, hout, h.cfg_eq]

theorem snapshotAt_eq (h : Twins c d s s') (k : BitVec 4) : s.snapshotAt k = s'.snapshotAt k := by
  simp only [State.snapshotAt, h.slot_eq]

theorem hasSlot_iff (h : Twins c d s s') (k : BitVec 4) : s.hasSlot k ↔ s'.hasSlot k := by
  simp only [State.hasSlot, h.cfg_eq]

theorem setupOf_eq (h : Twins c d s s') (eng : Engine) (a : InitOperands) : setupOf eng a s = setupOf eng a s' :=
  setupOf_congr h.cfg_eq (readBytes_congr fun _ _ => h.readByte_eq (by decide) _)
    (readBytes_congr fun _ _ => h.readByte_eq (by decide) _)

theorem processOutput_eq (h : Twins c d s s') : processOutput s c = processOutput s' d := by
  obtain ⟨-, hlen, -⟩ := h.args_toNat
  simp only [processOutput, h.context_eq, h.cfg_eq, hlen, h.inputBytes_eq, blkOutput_eq_blkBlocks]

/-! ### Operations that keep twins -/

theorem withObuf (h : Twins c d s s') (m m' : Memory) (n n' : Nat) :
    Twins c d { s with obuf := m, freeCount := n } { s' with obuf := m', freeCount := n' } := by
  refine ⟨h.cfg_eq, h.here, h.there, h.context_eq, h.slot_eq, fun buf hbuf => ?_, h.args_eq⟩
  cases buf with
  | obuf => exact absurd rfl hbuf
  | keybuf | ivbuf | ibuf => exact h.mem_eq _ hbuf

theorem latch (h : Twins c d s s') (w w' : Word) : Twins c d (s.latch w) (s'.latch w') :=
  ⟨h.cfg_eq, h.here, h.there, h.context_eq, h.slot_eq,
    fun buf hbuf => by rw [latch_mem, latch_mem, h.mem_eq buf hbuf], h.args_eq⟩

theorem report (h : Twins c d s s') (w w' r r' : Word) : Twins c d (s.report w r) (s'.report w' r') :=
  ⟨h.cfg_eq, h.here, h.there, h.context_eq, h.slot_eq,
    fun buf hbuf => by rw [report_mem, report_mem, h.mem_eq buf hbuf], h.args_eq⟩

theorem setContext (h : Twins c d s s') (x : Context) : Twins c d (s.setContext c x) (s'.setContext d x) := by
  refine ⟨h.cfg_eq, ⟨h.here.1, ?_⟩, ⟨h.there.1, ?_⟩, ?_, h.slot_eq, fun buf hbuf => ?_, h.args_eq⟩
  · rw [setContext_ctx, List.length_set]; exact h.here.2
  · rw [setContext_ctx, List.length_set]; exact h.there.2
  · rw [context_setContext_same s h.here.2, context_setContext_same s' h.there.2]
  · rw [setContext_mem, setContext_mem, h.mem_eq buf hbuf]

theorem setSnapshot (h : Twins c d s s') (k : BitVec 4) (x : Option Snapshot) :
    Twins c d (s.setSnapshot k x) (s'.setSnapshot k x) :=
  ⟨h.cfg_eq, h.here, h.there, h.context_eq, congrArg (fun l => List.set l k.toNat x) h.slot_eq,
    fun buf hbuf => by rw [setSnapshot_mem, setSnapshot_mem, h.mem_eq buf hbuf], h.args_eq⟩

theorem done (h : Twins c d s s') (i j : Instr) (r : Word) : Twins c d (s.done i r) (s'.done j r) :=
  (h.latch _ _).report _ _ _ _

/-- The same answer keeps twins and reports the same (40_contract.md R101). -/
theorem after (h : Twins c d s s') (i j : Instr) (r : Answer) :
    Twins c d (s.after i c r) (s'.after j d r) ∧ (s.after i c r).result = (s'.after j d r).result ∧
      statusClass (s.after i c r).status = statusClass (s'.after j d r).status ∧
      statusCode (s.after i c r).status = statusCode (s'.after j d r).status := by
  refine ⟨?_, by cases r <;> simp [State.after], by cases r <;> simp [State.after],
    by cases r <;> simp [State.after]⟩
  cases r with
  | refused e => exact (h.latch _ _).report _ _ _ _
  | killed e => exact ((h.latch _ _).setContext _).report _ _ _ _
  | context x result => exact (h.setContext x).done _ _ _
  | slot k x => exact (h.setSnapshot k x).done _ _ _

end Twins

end

/-! ### Twins get the same answer -/

/-- DROP needs no READY context (40_contract.md R83). -/
theorem NeedsReady.ne_drop {i : Instr} (h : NeedsReady i) (c : BitVec 4) : i ≠ .drop c := by
  rcases h with ⟨_, rfl⟩ | ⟨_, _, rfl⟩ | ⟨_, rfl⟩ | ⟨_, _, rfl⟩ <;> nofun

theorem retarget_of_isProcess {i : Instr} (h : i.IsProcess) (c : BitVec 4) : i.retarget c = .process c := by
  obtain ⟨e, rfl⟩ := h
  rfl

theorem isProcess_of_retarget {i : Instr} {c : BitVec 4} (h : (i.retarget c).IsProcess) : i.IsProcess := by
  obtain ⟨e, he⟩ := h
  cases i with
  | process c' => exact ⟨c', rfl⟩
  | _ => cases he

/-- PROCESS on a READY context by its transform: short operands, success, or the word limit (40_contract.md R89 to R92). -/
theorem execProcess_outcomes {s : State} {c : BitVec 4} {cur rst : CipherState} (hc : s.hasContext c)
    (hx : s.context c = .ready cur rst) :
    (s.ProcessShort cur ∧ execProcess c s = .next (s.refusedWith (.process c) .bufShort)) ∨
    (s.rangesFit = true ∧ ∃ out cur', cur.transform s.cfg s.inputBytes = some (out, cur')) ∨
    (s.rangesFit = true ∧ ∃ st, cur = .stream st ∧ takeBytes s.cfg s.len st = none) := by
  rcases execProcess_ready_cases hc hx with hshort | ⟨hfits, -⟩
  · exact .inl hshort
  · rw [processShort_iff, not_or, Bool.not_eq_false, not_and, not_not] at hfits
    obtain ⟨hfit, hblocks⟩ := hfits
    refine .inr ?_
    cases cur with
    | blk st => exact .inl ⟨hfit, _, _, transform_blk (by rw [inputBytes_length]; exact hblocks rfl)⟩
    | stream st =>
      cases htake : takeBytes s.cfg s.len st with
      | none => exact .inr ⟨hfit, st, rfl, htake⟩
      | some p => exact .inl ⟨hfit, _, _, transform_stream (by rw [inputBytes_length]; exact htake)⟩

section
variable {c d : BitVec 4} {s s' : State}

/-- Both commands give one answer. -/
def SameAnswer (i j : Instr) (c d : BitVec 4) (s s' : State) : Prop := ∃ r, Answers i c s r ∧ Answers j d s' r

theorem SameAnswer.of_exec {i j : Instr} (r : Answer) (h : exec i s = .next (s.after i c r))
    (h' : exec j s' = .next (s'.after j d r)) : SameAnswer i j c d s s' :=
  ⟨r, .of_exec h, .of_exec h'⟩

namespace Twins

theorem answer_of_no_slot (h : Twins c d s s') {i j : Instr} {k : BitVec 4} (hi : i.slotOf = some k)
    (hj : j.slotOf = some k) (hk : ¬ s.hasSlot k) : SameAnswer i j c d s s' :=
  .of_exec (.refused .badIndex) (exec_of_no_slot hi hk) (exec_of_no_slot hj (mt (h.hasSlot_iff k).mpr hk))

theorem answer_of_dead (h : Twins c d s s') {i j : Instr} (hi : i.ctxOf = c) (hj : j.ctxOf = d)
    (hij : i.slotOf = j.slotOf) (hslot : ∀ k, i.slotOf = some k → s.hasSlot k) {e : TerminalError}
    (hx : s.context c = .dead e) (hdi : ∀ c, i ≠ .drop c) (hdj : ∀ c, j ≠ .drop c) : SameAnswer i j c d s s' := by
  subst hi hj
  exact .of_exec (.refused .deadCtx) (exec_of_dead h.here.1 hslot hx hdi)
    (exec_of_dead h.there.1 (fun k hk => (h.hasSlot_iff k).mp (hslot k (hij.trans hk))) (h.context_there hx) hdj)

/-- The checks that the commands which need a READY context share (40_contract.md R82, R83). -/
theorem answer_needsReady (h : Twins c d s s') {i j : Instr} (hri : NeedsReady i) (hrj : NeedsReady j) (hi : i.ctxOf = c)
    (hj : j.ctxOf = d) (hij : i.slotOf = j.slotOf)
    (hready : (∀ k, i.slotOf = some k → s.hasSlot k) → ∀ cur rst, s.context c = .ready cur rst →
      SameAnswer i j c d s s') : SameAnswer i j c d s s' := by
  by_cases hslot : ∀ k, i.slotOf = some k → s.hasSlot k
  · cases hx : s.context c with
    | dead e => exact h.answer_of_dead hi hj hij hslot hx hri.ne_drop hrj.ne_drop
    | empty =>
      subst hi hj
      exact .of_exec (.refused .notInit) (exec_of_empty h.here.1 hslot hx hri)
        (exec_of_empty h.there.1 (fun k hk => (h.hasSlot_iff k).mp (hslot k (hij.trans hk))) (h.context_there hx) hrj)
    | ready cur rst => exact hready hslot cur rst hx
  · simp only [not_forall] at hslot
    obtain ⟨k, hk, hno⟩ := hslot
    exact h.answer_of_no_slot hk (hij ▸ hk) hno

theorem answer_init (h : Twins c d s s') (eng : Engine) (a : InitOperands) :
    SameAnswer (initOf eng c a) (initOf eng d a) c d s s' := by
  rcases execInit_cases s eng c a with ⟨hc, -⟩ | ⟨-, ⟨e, hx⟩, hs⟩ | ⟨-, hx, e, hcheck, hs⟩ | ⟨-, hx, hcheck, hs⟩
  · exact absurd h.here.1 hc
  · exact .of_exec (.refused .deadCtx) hs (exec_initOf_of_dead h.there.1 (h.context_there hx))
  · exact .of_exec (.killed (.config e)) hs (exec_initOf_of_check_some h.there.1 (h.context_eq ▸ hx) hcheck)
  · refine .of_exec (.context (.ready (setupOf eng a s) (setupOf eng a s)) 0) hs ?_
    rw [h.setupOf_eq]
    exact exec_initOf_of_check_none h.there.1 (h.context_eq ▸ hx) hcheck

theorem answer_process (h : Twins c d s s') {cur rst : CipherState} (hx : s.context c = .ready cur rst) :
    SameAnswer (.process c) (.process d) c d s s' := by
  have hx' := h.context_there hx
  obtain ⟨-, harg1, -⟩ := h.args_eq
  obtain ⟨-, hlen, -⟩ := h.args_toNat
  rcases execProcess_outcomes h.here.1 hx with ⟨hshort, hs⟩ | ⟨hfit, out, cur', ht⟩ | ⟨hfit, st, rfl, hnone⟩
  · refine .of_exec (.refused .bufShort) hs ?_
    rcases execProcess_ready_cases h.there.1 hx' with ⟨-, hs'⟩ | ⟨hfits, -⟩
    · exact hs'
    · rw [processShort_iff, ← h.rangesFit_eq, ← hlen, ← processShort_iff] at hfits
      exact absurd hshort hfits
  · refine ⟨.context (.ready cur' rst) s.arg1, ⟨_, _, execProcess_of_transform h.here.1 hfit hx ht⟩, ?_⟩
    rw [harg1]
    rw [h.cfg_eq, h.inputBytes_eq] at ht
    exact ⟨_, _, execProcess_of_transform h.there.1 (h.rangesFit_eq ▸ hfit) hx' ht⟩
  · refine ⟨.killed (.exhausted .wordLimit), ⟨_, _, execProcess_limit h.here.1 hfit hx hnone⟩, ?_⟩
    rw [h.cfg_eq, hlen] at hnone
    exact ⟨_, _, execProcess_limit h.there.1 (h.rangesFit_eq ▸ hfit) hx' hnone⟩

theorem answer_retbyte (h : Twins c d s s') {cur rst : CipherState} (hx : s.context c = .ready cur rst) (b : Byte) :
    SameAnswer (.retbyte c b) (.retbyte d b) c d s s' := by
  have hx' := h.context_there hx
  cases cur with
  | blk st => exact .of_exec (.refused .noRetbyte) (execRetbyte_blk h.here.1 hx b) (execRetbyte_blk h.there.1 hx' b)
  | stream st =>
    cases hnext : nextByte s.cfg st with
    | none =>
      exact .of_exec (.killed (.exhausted .wordLimit)) (execRetbyte_none h.here.1 b hx hnext)
        (execRetbyte_none h.there.1 b hx' (h.cfg_eq ▸ hnext))
    | some p =>
      exact .of_exec (.context (.ready (.stream p.2) rst) ((b ^^^ p.1).setWidth 32))
        (execRetbyte_some h.here.1 hx hnext) (execRetbyte_some h.there.1 hx' (h.cfg_eq ▸ hnext))

theorem answer_restore (h : Twins c d s s') (k : BitVec 4) :
    SameAnswer (.restore c k) (.restore d k) c d s s' := by
  by_cases hk : s.hasSlot k
  · have hk' := (h.hasSlot_iff k).mp hk
    cases hctx : s.context c with
    | dead e => exact h.answer_of_dead rfl rfl rfl (fun j hj => Option.some.inj hj ▸ hk) hctx nofun nofun
    | empty =>
      have hctx' := h.context_there hctx
      cases hsnap : s.snapshotAt k with
      | none =>
        exact .of_exec (.refused .snapEmpty) (execRestore_unused h.here.1 hk (hctx ▸ nofun) hsnap)
          (execRestore_unused h.there.1 hk' (hctx' ▸ nofun) (h.snapshotAt_eq k ▸ hsnap))
      | some snap =>
        exact .of_exec (.context (.ready snap.cur snap.rst) 0) (execRestore_empty h.here.1 hk hctx hsnap)
          (execRestore_empty h.there.1 hk' hctx' (h.snapshotAt_eq k ▸ hsnap))
    | ready cur rst =>
      have hctx' := h.context_there hctx
      cases hsnap : s.snapshotAt k with
      | none =>
        exact .of_exec (.refused .snapEmpty) (execRestore_unused h.here.1 hk (hctx ▸ nofun) hsnap)
          (execRestore_unused h.there.1 hk' (hctx' ▸ nofun) (h.snapshotAt_eq k ▸ hsnap))
      | some snap =>
        have hs := execRestore_ready h.here.1 hk hctx hsnap
        have hs' := execRestore_ready h.there.1 hk' hctx' (h.snapshotAt_eq k ▸ hsnap)
        by_cases heng : cur.engine = snap.cur.engine
        · rw [if_pos heng] at hs hs'
          exact .of_exec (.context (.ready snap.cur snap.rst) 0) hs hs'
        · rw [if_neg heng] at hs hs'
          exact .of_exec (.refused .snapMismatch) hs hs'
  · exact h.answer_of_no_slot rfl rfl hk

/-- Twins give one answer to every command (40_contract.md R101). -/
theorem answer (h : Twins c d s s') (i : Instr) : SameAnswer (i.retarget c) (i.retarget d) c d s s' := by
  cases i with
  | initLf128 _ a => exact h.answer_init .lf128 a
  | initLf256 _ a => exact h.answer_init .lf256 a
  | initCtr _ a => exact h.answer_init .ctr a
  | initSrp _ a => exact h.answer_init .srp a
  | initBlk _ a => exact h.answer_init .blk a
  | process =>
    exact h.answer_needsReady (.inl ⟨c, rfl⟩) (.inl ⟨d, rfl⟩) rfl rfl rfl fun _ _ _ hx => h.answer_process hx
  | retbyte _ b =>
    exact h.answer_needsReady (.inr (.inl ⟨c, b, rfl⟩)) (.inr (.inl ⟨d, b, rfl⟩)) rfl rfl rfl
      fun _ _ _ hx => h.answer_retbyte hx b
  | reset =>
    exact h.answer_needsReady (.inr (.inr (.inl ⟨c, rfl⟩))) (.inr (.inr (.inl ⟨d, rfl⟩))) rfl rfl rfl
      fun _ _ rst hx => .of_exec (.context (.ready rst rst) 0) (execReset_ready h.here.1 hx)
        (execReset_ready h.there.1 (h.context_there hx))
  | snapshot _ k =>
    exact h.answer_needsReady (.inr (.inr (.inr ⟨c, k, rfl⟩))) (.inr (.inr (.inr ⟨d, k, rfl⟩))) rfl rfl rfl
      fun hk cur rst hx => .of_exec (.slot k (some { cur := cur, rst := rst })) (execSnapshot_ready h.here.1 (hk k rfl) hx)
        (execSnapshot_ready h.there.1 ((h.hasSlot_iff k).mp (hk k rfl)) (h.context_there hx))
  | restore _ k => exact h.answer_restore k
  | drop => exact .of_exec (.context .empty 0) (execDrop_of_context h.here.1) (execDrop_of_context h.there.1)

end Twins

end

/-- A SNAPSHOT that succeeded: what it found and what it stored (40_contract.md R96). -/
theorem of_snapshot_ok {s t : State} {c k : BitVec 4} (hexec : exec (.snapshot c k) s = .next t)
    (hok : statusClass t.status = 0) : ∃ cur rst, s.hasContext c ∧ s.hasSlot k ∧ s.context c = .ready cur rst ∧
      t = (s.setSnapshot k (some { cur := cur, rst := rst })).done (.snapshot c k) 0 := by
  rcases execSnapshot_cases s c k with ⟨-, h⟩ | ⟨-, -, -, h⟩ | ⟨-, -, -, h⟩ | ⟨hc, hk, cur, rst, hx, h⟩ <;>
    obtain rfl := Host.Outcome.next.inj (h.symm.trans hexec)
  · simp at hok
  · simp at hok
  · simp at hok
  · exact ⟨cur, rst, hc, hk, hx, rfl⟩

/-- A RESTORE that succeeded: what it found and what it installed (40_contract.md R97). -/
theorem of_restore_ok {s t : State} {c k : BitVec 4} (hexec : exec (.restore c k) s = .next t)
    (hok : statusClass t.status = 0) : ∃ snap, s.hasContext c ∧ s.snapshotAt k = some snap ∧
      t = (s.setContext c (.ready snap.cur snap.rst)).done (.restore c k) 0 := by
  rcases execRestore_cases s c k with ⟨-, h⟩ | ⟨-, -, -, h⟩ | ⟨-, -, -, -, h⟩ | ⟨-, -, -, h⟩ | ⟨hc, -, snap, hused, -, h⟩ <;>
    obtain rfl := Host.Outcome.next.inj (h.symm.trans hexec)
  · simp at hok
  · simp at hok
  · simp at hok
  · simp at hok
  · exact ⟨snap, hc, hused, rfl⟩

/-- A context that holds what is written to another holds the same as that other, which may be itself. -/
theorem twins_setContext {t : State} {c d : BitVec 4} {x : Context} (hc : t.hasContext c) (hclen : c.toNat < t.ctx.length)
    (hd : t.hasContext d) (hdlen : d.toNat < t.ctx.length) (hx : t.context c = x) :
    Twins c d (t.setContext d x) (t.setContext d x) := by
  refine ⟨rfl, ⟨hc, ?_⟩, ⟨hd, ?_⟩, ?_, rfl, fun _ _ => rfl, rfl, rfl, rfl⟩
  · rw [setContext_ctx, List.length_set]; exact hclen
  · rw [setContext_ctx, List.length_set]; exact hdlen
  · rw [context_setContext_same t hdlen]
    rcases context_setContext_cases t d c x with ⟨-, hsame⟩ | hkept
    · exact hsame
    · exact hkept.trans hx

/-- A context and the one its snapshot was restored into are twins (40_contract.md R101). -/
theorem twins_of_snapshot_restore {s t u : State} {c d k : BitVec 4} (hinv : s.Inv)
    (hsnap : exec (.snapshot c k) s = .next t) (hok : statusClass t.status = 0)
    (hrestore : exec (.restore d k) t = .next u) (hok' : statusClass u.status = 0) : Twins c d u u := by
  have hkept := (commandEffect_of_exec hsnap).context_snapshot c
  have hinv' : t.Inv := (commandEffect_of_exec hsnap).inv hinv
  obtain ⟨cur, rst, hc, hk, hx, ht⟩ := of_snapshot_ok hsnap hok
  obtain ⟨snap, hd, hused, rfl⟩ := of_restore_ok hrestore hok'
  have hc' : t.hasContext c := ht ▸ hc
  rw [ht, done_snapshotAt, snapshotAt_setSnapshot_same s (hinv.slot_length ▸ hk)] at hused
  cases hused
  exact (twins_setContext hc' (hinv'.ctx_length ▸ hc') hd (hinv'.ctx_length ▸ hd) (hkept.trans hx)).done _ _ 0

/-- The bytes of `OBUF` after a command on twins (40_contract.md R92, R101). -/
theorem Twins.readByte_obuf {c d : BitVec 4} {s s' t t' : State} {i : Instr} (h : Twins c d s s')
    (hexec : exec (i.retarget c) s = .next t) (hexec' : exec (i.retarget d) s' = .next t')
    (hclass : statusClass t.status = statusClass t'.status) :
    (i.IsProcess → statusClass t.status = 0 → ∀ a, s.outOff ≤ a → a < s.outOff + s.len →
      t.readByte .obuf a = t'.readByte .obuf a) ∧
    (∀ a, (i.IsProcess → statusClass t.status = 3 → a < s.outOff ∨ s.outOff + s.len ≤ a) →
      s.readByte .obuf a = s'.readByte .obuf a → t.readByte .obuf a = t'.readByte .obuf a) := by
  have he := commandEffect_of_exec hexec
  have he' := commandEffect_of_exec hexec'
  obtain ⟨-, hlen, hout⟩ := h.args_toNat
  have hinside (hproc : i.IsProcess) (hok : statusClass t.status = 0) (a : Nat) (hlo : s.outOff ≤ a)
      (hhi : a < s.outOff + s.len) : t.readByte .obuf a = t'.readByte .obuf a := by
    rw [retarget_of_isProcess hproc] at he he'
    rw [he.readByte_processOutput hok hlo hhi, he'.readByte_processOutput (hclass ▸ hok) (hout ▸ hlo) (hlen ▸ hout ▸ hhi),
      h.processOutput_eq, hout]
  refine ⟨hinside, fun a ha hsame => ?_⟩
  by_cases hrange : i.IsProcess → a < s.outOff ∨ s.outOff + s.len ≤ a
  · rw [he.readByte_obuf a fun hproc => hrange (isProcess_of_retarget hproc),
      he'.readByte_obuf a fun hproc => hlen ▸ hout ▸ hrange (isProcess_of_retarget hproc), hsame]
  · obtain ⟨hproc, hin⟩ := Classical.not_imp.mp hrange
    have hclasses : statusClass t.status = 0 ∨ statusClass t.status = 2 ∨ statusClass t.status = 3 := by
      rw [retarget_of_isProcess hproc] at he
      exact he.process_class
    rcases hclasses with hok | husage | hlimit
    · exact hinside hproc hok a (by omega) (by omega)
    · rw [he.readByte_of_usage husage, he'.readByte_of_usage (hclass ▸ husage), hsame]
    · exact absurd (ha hproc hlimit) hin

/-- Settles O48. -/
theorem snapshotEquivalence : Obligations.SnapshotEquivalence := by
  unfold Obligations.SnapshotEquivalence
  refine ⟨fun s t u c d k hinv hsnap hok hrestore hok' => twins_of_snapshot_restore hinv hsnap hok hrestore hok',
    fun i s s' t c d h hexec => ?_⟩
  obtain ⟨r, ⟨m, n, hs⟩, ⟨m', n', hs'⟩⟩ := h.answer i
  obtain ⟨htwins, hresult, hclass, hcode⟩ := (h.withObuf m m' n n').after (i.retarget c) (i.retarget d) r
  obtain rfl := Host.Outcome.next.inj (hs.symm.trans hexec)
  obtain ⟨hinside, hkept⟩ := h.readByte_obuf hs hs' hclass
  exact ⟨_, hs', htwins, hresult, hclass, hcode, hinside, hkept⟩

end Sys2Proof.Machine
end

section
/-!
CLAIM. The arithmetic of the LFSR engines is arithmetic modulo `2^31 - 1` (41_lfsr_fsm.md R110, R118). Since `2^31` is 1
there, a carry out of the 31 bits, and a bit rotated out of them, comes back at the bottom.
-/

namespace Sys2Proof.Machine

/-! ### Addition -/

/-- The sum with its carry added back: nothing of it is lost to the 32 bits of the register. -/
theorem toNat_add31 {a b : Word} (ha : a.toNat < 2 ^ 31) (hb : b.toNat < 2 ^ 31) :
    (add31 a b).toNat = (a.toNat + b.toNat) % 2 ^ 31 + (a.toNat + b.toNat) / 2 ^ 31 := by
  rw [add31, BitVec.toNat_ofNat]
  exact Nat.mod_eq_of_lt (by omega)

theorem add31_modEq {a b : Word} (ha : a.toNat < 2 ^ 31) (hb : b.toNat < 2 ^ 31) :
    (add31 a b).toNat ≡ a.toNat + b.toNat [MOD 2 ^ 31 - 1] := by
  rw [toNat_add31 ha hb, Nat.ModEq]
  omega

/-- A sum is 0 for two zeros only: from other summands a multiple of `2^31 - 1` comes out as `2^31 - 1` itself. -/
theorem add31_eq_zero_iff {a b : Word} (ha : a.toNat < 2 ^ 31) (hb : b.toNat < 2 ^ 31) :
    add31 a b = 0 ↔ a = 0 ∧ b = 0 := by
  have hzero (w : Word) : w = 0 ↔ w.toNat = 0 := BitVec.toNat_inj.symm
  rw [hzero, hzero, hzero, toNat_add31 ha hb]
  omega

theorem CellInRange.ne_zero {w : Word} (h : CellInRange w) : w ≠ 0 :=
  fun hz => h.1.ne' (congrArg BitVec.toNat hz)

/-- A sum with a value of a cell's range is in that range. -/
theorem add31_inRange {a b : Word} (ha : CellInRange a) (hb : b.toNat < 2 ^ 31) : CellInRange (add31 a b) :=
  ⟨toNat_pos_of_ne_zero fun hz => ha.ne_zero ((add31_eq_zero_iff ha.2 hb).mp hz).1, add31_lt ha.2 hb⟩

/-! ### Rotation -/

/-- The low `31 - k` bits go up by `k` and the high `k` bits come in below them. -/
theorem toNat_rotl31 {a : Word} {k : Nat} (ha : a.toNat < 2 ^ 31) (hk : k ≤ 31) :
    (rotl31 a k).toNat = 2 ^ k * (a.toNat % 2 ^ (31 - k)) + a.toNat / 2 ^ (31 - k) := by
  have hpow : 2 ^ k * 2 ^ (31 - k) = 2 ^ 31 := pow_mul_pow_sub 2 hk
  have hhigh : a.toNat / 2 ^ (31 - k) < 2 ^ k := Nat.div_lt_of_lt_mul (by rwa [Nat.mul_comm, hpow])
  have hlow : a.toNat <<< k % 2 ^ 32 % 2 ^ 31 = 2 ^ k * (a.toNat % 2 ^ (31 - k)) := by
    rw [Nat.mod_mod_of_dvd _ (by decide), Nat.shiftLeft_eq, Nat.mul_comm, ← hpow, Nat.mul_mod_mul_left]
  calc (rotl31 a k).toNat
      = (a.toNat <<< k % 2 ^ 32 ||| a.toNat >>> (31 - k)) &&& (2 ^ 31 - 1) := by
        rw [rotl31, BitVec.toNat_and, BitVec.toNat_or, BitVec.toNat_shiftLeft, BitVec.toNat_ushiftRight]; rfl
    _ = a.toNat <<< k % 2 ^ 32 % 2 ^ 31 ||| a.toNat / 2 ^ (31 - k) % 2 ^ 31 := by
        rw [Nat.and_two_pow_sub_one_eq_mod, Nat.or_mod_two_pow, Nat.shiftRight_eq_div_pow]
    _ = 2 ^ k * (a.toNat % 2 ^ (31 - k)) ||| a.toNat / 2 ^ (31 - k) := by
        rw [hlow, Nat.mod_eq_of_lt (Nat.lt_of_le_of_lt (Nat.div_le_self _ _) ha)]
    _ = 2 ^ k * (a.toNat % 2 ^ (31 - k)) + a.toNat / 2 ^ (31 - k) := (Nat.two_pow_add_eq_or_of_lt hhigh _).symm

/-- Rotation multiplies by `2^k`: the high bits, worth `2^31` each in the product, count once. -/
theorem rotl31_modEq {a : Word} {k : Nat} (ha : a.toNat < 2 ^ 31) (hk : k ≤ 31) :
    (rotl31 a k).toNat ≡ 2 ^ k * a.toNat [MOD 2 ^ 31 - 1] := by
  have hpow : 2 ^ k * 2 ^ (31 - k) = 2 ^ 31 := pow_mul_pow_sub 2 hk
  have hprod : 2 ^ k * a.toNat = 2 ^ k * (a.toNat % 2 ^ (31 - k)) + 2 ^ 31 * (a.toNat / 2 ^ (31 - k)) := by
    rw [← hpow, Nat.mul_assoc, ← Nat.mul_add, Nat.mod_add_div]
  rw [toNat_rotl31 ha hk, hprod, Nat.ModEq]
  omega

/-! ### The feedback value -/

/-- Adding a rotated cell, as one term of the sum of 41_lfsr_fsm.md R118. -/
theorem add31_rotl31_modEq {v c : Word} {k n : Nat} (hv : v.toNat < 2 ^ 31) (hc : c.toNat < 2 ^ 31) (hk : k ≤ 31)
    (h : v.toNat ≡ n [MOD 2 ^ 31 - 1]) :
    (add31 v (rotl31 c k)).toNat ≡ n + 2 ^ k * c.toNat [MOD 2 ^ 31 - 1] :=
  (add31_modEq hv (rotl31_lt c k)).trans (h.add (rotl31_modEq hc hk))

theorem lfFeedback_modEq {s : Vector Word 16} (h : ∀ i : Fin 16, s[i].toNat < 2 ^ 31) :
    (lfFeedback s).toNat ≡ (1 + 2 ^ 8) * s[0].toNat + 2 ^ 20 * s[4].toNat + 2 ^ 21 * s[10].toNat + 2 ^ 17 * s[13].toNat
      + 2 ^ 15 * s[15].toNat [MOD 2 ^ 31 - 1] := by
  have h1 := add31_lt (h 0) (rotl31_lt s[0] 8)
  have h2 := add31_lt h1 (rotl31_lt s[4] 20)
  have h3 := add31_lt h2 (rotl31_lt s[10] 21)
  have h4 := add31_lt h3 (rotl31_lt s[13] 17)
  rw [Nat.add_mul, Nat.one_mul]
  exact add31_rotl31_modEq h4 (h 15) (by decide) <| add31_rotl31_modEq h3 (h 13) (by decide) <|
    add31_rotl31_modEq h2 (h 10) (by decide) <| add31_rotl31_modEq h1 (h 4) (by decide) <|
    add31_rotl31_modEq (h 0) (h 0) (by decide) rfl

/-- The feedback is in a cell's range because its first summand, cell 0, is (41_lfsr_fsm.md R118). -/
theorem lfFeedback_inRange {s : Vector Word 16} (h : CellInRange s[0]) : CellInRange (lfFeedback s) :=
  add31_inRange (add31_inRange (add31_inRange (add31_inRange (add31_inRange h (rotl31_lt _ _)) (rotl31_lt _ _))
    (rotl31_lt _ _)) (rotl31_lt _ _)) (rotl31_lt _ _)

/-- Settles O55. -/
theorem lfsrArithmeticIsExact : Obligations.LfsrArithmeticIsExact := by
  unfold Obligations.LfsrArithmeticIsExact
  refine ⟨fun a b ha hb => ⟨add31_lt ha hb, add31_modEq ha hb, add31_eq_zero_iff ha hb⟩,
    fun a k ha _ hk => ⟨rotl31_lt a k, rotl31_modEq ha hk.le⟩, fun s u hs hu => ?_⟩
  have hfb : CellInRange (lfFeedback s) := lfFeedback_inRange (hs 0)
  exact ⟨lfFeedback_modEq fun i => (hs i).2, hfb.ne_zero, (add31_inRange hfb hu).ne_zero⟩

end Sys2Proof.Machine
end

section
/-!
CLAIM. The carry chain of CTR is one 256-bit addition (42_counter.md R126). The comparison of a new counter with the old one
finds every carry because no constant is `2^32 - 1`: for that one, a carry in would bring the counter back to its old value,
and the comparison would miss the carry out.
-/

namespace Sys2Proof.Machine

/-! ### One counter -/

theorem toNat_carryWord (b : Bool) : (carryWord b).toNat = b.toNat := by
  cases b <;> rfl

theorem toNat_ctrAdd (old a : Word) (b : Bool) :
    (ctrAdd old a b).toNat = (old.toNat + a.toNat + b.toNat) % 2 ^ 32 := by
  rw [ctrAdd, BitVec.toNat_add, BitVec.toNat_add, toNat_carryWord, Nat.mod_add_mod]

/-- What is added to the old counter is below `2^32`, so that the sum wraps exactly when it comes out smaller. -/
theorem ctrCarry_eq_decide {a : Word} (ha : a.toNat < 2 ^ 32 - 1) (old : Word) (b : Bool) :
    ctrCarry old a b = decide (2 ^ 32 ≤ old.toNat + a.toNat + b.toNat) := by
  have hadded : a.toNat + b.toNat < 2 ^ 32 := by have := b.toNat_le; omega
  have hold : old.toNat < 2 ^ 32 := old.isLt
  rw [ctrCarry, decide_eq_decide, BitVec.lt_def, toNat_ctrAdd]
  omega

/-- One digit of the long addition, in base `2^32`. -/
theorem toNat_ctrAdd_add_ctrCarry {a : Word} (ha : a.toNat < 2 ^ 32 - 1) (old : Word) (b : Bool) :
    (ctrAdd old a b).toNat + 2 ^ 32 * (ctrCarry old a b).toNat = old.toNat + a.toNat + b.toNat := by
  have hb : b.toNat ≤ 1 := b.toNat_le
  have hold : old.toNat < 2 ^ 32 := old.isLt
  rw [ctrCarry_eq_decide ha, toNat_ctrAdd]
  by_cases hwrap : 2 ^ 32 ≤ old.toNat + a.toNat + b.toNat
  · rw [decide_eq_true hwrap, Bool.toNat_true]
    omega
  · rw [decide_eq_false hwrap, Bool.toNat_false]
    omega

/-! ### The chain -/

/-- The carry into counter `k` of `ctrCounterUpdate`; the one into counter 8 is the carry out. -/
def ctrCarryInto (rom : Rom) (cnt : Vector Word 8) (b : Bool) : (k : Nat) → k ≤ 8 → Bool
  | 0, _ => b
  | k + 1, hk => ctrCarry cnt[k] rom.ctrA[k] (ctrCarryInto rom cnt b k (Nat.le_of_lt hk))

theorem ctrCounterUpdate_fst_getElem (rom : Rom) (cnt : Vector Word 8) (b : Bool) {k : Nat} (hk : k < 8) :
    (ctrCounterUpdate rom cnt b).1[k] = ctrAdd cnt[k] rom.ctrA[k] (ctrCarryInto rom cnt b k hk.le) := by
  interval_cases k <;> rfl

theorem ctrCounterUpdate_snd (rom : Rom) (cnt : Vector Word 8) (b : Bool) :
    (ctrCounterUpdate rom cnt b).2 = ctrCarryInto rom cnt b 8 le_rfl := rfl

/-- Eight counters as one number, the first its least significant digit. -/
def counterValue (v : Vector Word 8) : Nat :=
  v[0].toNat + 2 ^ 32 * v[1].toNat + 2 ^ 64 * v[2].toNat + 2 ^ 96 * v[3].toNat + 2 ^ 128 * v[4].toNat
    + 2 ^ 160 * v[5].toNat + 2 ^ 192 * v[6].toNat + 2 ^ 224 * v[7].toNat

/-- The digits weighted by their places add up: each carry out cancels against the carry into the next place. -/
theorem counterValue_ctrCounterUpdate {rom : Rom} (h : ∀ j : Fin 8, rom.ctrA[j].toNat < 2 ^ 32 - 1)
    (cnt : Vector Word 8) (b : Bool) :
    counterValue (ctrCounterUpdate rom cnt b).1 + 2 ^ 256 * (ctrCounterUpdate rom cnt b).2.toNat =
      counterValue cnt + counterValue rom.ctrA + b.toNat := by
  have digit (k : Nat) (hk : k < 8) : (ctrCounterUpdate rom cnt b).1[k].toNat
      + 2 ^ 32 * (ctrCarryInto rom cnt b (k + 1) hk).toNat =
        cnt[k].toNat + rom.ctrA[k].toNat + (ctrCarryInto rom cnt b k hk.le).toNat := by
    rw [ctrCounterUpdate_fst_getElem]
    exact toNat_ctrAdd_add_ctrCarry (h ⟨k, hk⟩) _ _
  have hin : (ctrCarryInto rom cnt b 0 (by decide)).toNat = b.toNat := rfl
  rw [ctrCounterUpdate_snd, counterValue, counterValue, counterValue]
  linear_combination digit 0 (by decide) + 2 ^ 32 * digit 1 (by decide) + 2 ^ 64 * digit 2 (by decide)
    + 2 ^ 96 * digit 3 (by decide) + 2 ^ 128 * digit 4 (by decide) + 2 ^ 160 * digit 5 (by decide)
    + 2 ^ 192 * digit 6 (by decide) + 2 ^ 224 * digit 7 (by decide) + hin

theorem refRom_ctrA_lt (j : Fin 8) : refRom.ctrA[j].toNat < 2 ^ 32 - 1 := by
  revert j
  decide

/-- Settles O56. -/
theorem counterChainIsLongAddition : Obligations.CounterChainIsLongAddition := by
  unfold Obligations.CounterChainIsLongAddition
  exact ⟨fun j => ctrCarry_eq_decide (refRom_ctrA_lt j), counterValue_ctrCounterUpdate refRom_ctrA_lt⟩

end Sys2Proof.Machine
end

section
/-!
CLAIM. Two parts of SRP that its keystream is built from. Division by α inverts multiplication by it (43_serpent_derived.md
R140): a word shifted left by a byte loses its top byte `c`, and the table entry of `c` is the word that division takes back to
`c` in the top byte. The S-box layer works bit by bit (R138).
-/

namespace Sys2Proof.Machine

/-! ### Multiplication and division by α -/

/-- Division is linear in the bits above the low byte, where it only shifts. -/
theorem srpDivA_shiftLeft_xor (rom : Rom) (x m : Word) :
    srpDivA rom (x <<< 8 ^^^ m) = x <<< 8 >>> 8 ^^^ srpDivA rom m := by
  have hlow : (x <<< 8 ^^^ m).extractLsb' 0 8 = m.extractLsb' 0 8 := by
    ext i hi
    simp [hi]
  rw [srpDivA, srpDivA, hlow, BitVec.ushiftRight_xor_distrib, BitVec.xor_assoc]

/-- The three low bytes and the top byte make up the word. -/
theorem shiftLeft_ushiftRight_xor_topByte (x : Word) :
    x <<< 8 >>> 8 ^^^ (x.extractLsb' 24 8 ++ 0#24) = x := by
  refine BitVec.eq_of_getLsbD_eq fun i hi => ?_
  rw [BitVec.getLsbD_xor, BitVec.getLsbD_ushiftRight, BitVec.getLsbD_shiftLeft, BitVec.getLsbD_append]
  by_cases hlow : i < 24
  · have hin : 8 + i < 32 := by omega
    simp [hlow, hin]
  · have hout : ¬ 8 + i < 32 := by omega
    have htop : i - 24 < 8 := by omega
    have hi' : 24 + (i - 24) = i := by omega
    simp [hlow, hout, htop, hi']

/-- Whatever the tables hold: if division takes the entry of each `c` back to `c` in the top byte, it undoes multiplication. -/
theorem srpDivA_srpMulA {rom : Rom} (h : ∀ c : Byte, srpDivA rom (wordEntry rom.srpMula c) = c ++ 0#24) (x : Word) :
    srpDivA rom (srpMulA rom x) = x := by
  rw [srpMulA, srpDivA_shiftLeft_xor, h, shiftLeft_ushiftRight_xor_topByte]

/-- The reference tables, entry by entry. -/
theorem srpDivA_refRom_srpMula (c : Byte) : srpDivA refRom (wordEntry refRom.srpMula c) = c ++ 0#24 := by
  revert c
  decide +kernel

/-- Settles O57: the words are finite in number, so that a left inverse is a right inverse too. -/
theorem alphaDivisionInvertsMultiplication : Obligations.AlphaDivisionInvertsMultiplication := by
  unfold Obligations.AlphaDivisionInvertsMultiplication
  have hleft : Function.LeftInverse (srpDivA refRom) (srpMulA refRom) := srpDivA_srpMulA srpDivA_refRom_srpMula
  have hfinite : Finite Word := Finite.of_injective BitVec.toFin fun _ _ => BitVec.eq_of_toFin_eq
  have hright : Function.RightInverse (srpDivA refRom) (srpMulA refRom) :=
    hleft.rightInverse_of_surjective (Finite.surjective_of_injective hleft.injective)
  exact fun x => ⟨hleft x, hright x⟩

/-! ### The S-box layer -/

theorem gatherBits_succ (f : Nat → Bool) (n : Nat) : gatherBits f (n + 1) = 2 ^ n * (f n).toNat + gatherBits f n := by
  rw [gatherBits, Nat.add_comm]
  cases f n <;> simp

theorem gatherBits_lt (f : Nat → Bool) (n : Nat) : gatherBits f n < 2 ^ n := by
  induction n with
  | zero => exact Nat.one_pos
  | succ n ih =>
    have hbit : 2 ^ n * (f n).toNat ≤ 2 ^ n * 1 := Nat.mul_le_mul_left _ (f n).toNat_le
    rw [gatherBits_succ, Nat.pow_succ]
    omega

theorem testBit_gatherBits (f : Nat → Bool) {n i : Nat} (hi : i < n) : (gatherBits f n).testBit i = f i := by
  induction n with
  | zero => contradiction
  | succ n ih =>
    rw [gatherBits_succ, Nat.testBit_two_pow_mul_add _ (gatherBits_lt f n)]
    split
    next hlow => exact ih hlow
    next hlow =>
      obtain rfl : i = n := by omega
      rw [Nat.sub_self]
      cases f i <;> rfl

/-- The index that four bits make, the last one the least significant. -/
theorem toNat_ofBool_append (b3 b2 b1 b0 : Bool) :
    (BitVec.ofBool b3 ++ BitVec.ofBool b2 ++ BitVec.ofBool b1 ++ BitVec.ofBool b0).toNat =
      8 * b3.toNat + 4 * b2.toNat + 2 * b1.toNat + b0.toNat := by
  revert b3 b2 b1 b0
  decide

theorem srpNibble_eq (rom : Rom) (n : Fin 8) (x : Vector Word 4) (i : Nat) :
    srpNibble rom n x i = rom.srpSb[n][8 * (x[3].getLsbD i).toNat + 4 * (x[2].getLsbD i).toNat
      + 2 * (x[1].getLsbD i).toNat + (x[0].getLsbD i).toNat]! := by
  rw [← toNat_ofBool_append]
  exact (getElem!_pos rom.srpSb[n] _ (BitVec.isLt _)).symm

theorem srpSBox_getElem (rom : Rom) (n : Fin 8) (x : Vector Word 4) (j : Fin 4) :
    (srpSBox rom n x)[j] = BitVec.ofNat 32 (gatherBits (fun i => (srpNibble rom n x i).getLsbD j) 32) := by
  fin_cases j <;> rfl

/-- Settles O58. -/
theorem sboxLayerIsBitwise : Obligations.SboxLayerIsBitwise := by
  unfold Obligations.SboxLayerIsBitwise
  intro rom n x j i hi
  rw [srpSBox_getElem, BitVec.getLsbD_ofNat, testBit_gatherBits _ hi, decide_eq_true hi, Bool.true_and, srpNibble_eq]

end Sys2Proof.Machine
end

section
/-!
SUPPORT. Words as four bytes: `be32` and `byteOf` are inverse to each other and bytewise (00_scope.md R17). The field of the
block cipher (45_block_cipher.md R155): multiplication is linear in both factors, so that the products by 2, 4 and 6 are sums
of iterated doublings.
-/

namespace Sys2Proof.Machine

/-! ### Words and their bytes -/

section
variable (a b c d a' b' c' d' : Byte) (w w' : Word)

@[simp] theorem byteOf_be32_zero : byteOf (be32 a b c d) 0 = a :=
  (BitVec.extractLsb'_append_eq_of_le (by decide : 8 ≤ 24)).trans <|
    (BitVec.extractLsb'_append_eq_of_le (by decide : 8 ≤ 16)).trans BitVec.extractLsb'_append_eq_left

@[simp] theorem byteOf_be32_one : byteOf (be32 a b c d) 1 = b :=
  (BitVec.extractLsb'_append_eq_of_le (by decide : 8 ≤ 16)).trans <|
    (BitVec.extractLsb'_append_eq_of_le (by decide : 8 ≤ 8)).trans BitVec.extractLsb'_append_eq_right

@[simp] theorem byteOf_be32_two : byteOf (be32 a b c d) 2 = c :=
  (BitVec.extractLsb'_append_eq_of_le (by decide : 8 ≤ 8)).trans BitVec.extractLsb'_append_eq_right

@[simp] theorem byteOf_be32_three : byteOf (be32 a b c d) 3 = d := BitVec.extractLsb'_append_eq_right

/-- The four bytes of a word make up the word. -/
theorem be32_byteOf : be32 (byteOf w 0) (byteOf w 1) (byteOf w 2) (byteOf w 3) = w := by
  have htop : byteOf w 0 ++ byteOf w 1 = w.extractLsb' 16 16 := BitVec.extractLsb'_append_extractLsb'_eq_extractLsb' rfl
  have hthree : w.extractLsb' 16 16 ++ byteOf w 2 = w.extractLsb' 8 24 :=
    BitVec.extractLsb'_append_extractLsb'_eq_extractLsb' rfl
  have hall : w.extractLsb' 8 24 ++ byteOf w 3 = w.extractLsb' 0 32 :=
    BitVec.extractLsb'_append_extractLsb'_eq_extractLsb' rfl
  rw [be32, htop, hthree, hall, BitVec.extractLsb'_eq_self]

theorem be32_xor : be32 a b c d ^^^ be32 a' b' c' d' = be32 (a ^^^ a') (b ^^^ b') (c ^^^ c') (d ^^^ d') :=
  (BitVec.xor_append (x₁ := a ++ b ++ c) (x₂ := a' ++ b' ++ c')).trans <| congrArg (· ++ (d ^^^ d')) <|
    (BitVec.xor_append (x₁ := a ++ b) (x₂ := a' ++ b')).trans <| congrArg (· ++ (c ^^^ c')) BitVec.xor_append

theorem be32_and : be32 a b c d &&& be32 a' b' c' d' = be32 (a &&& a') (b &&& b') (c &&& c') (d &&& d') :=
  (BitVec.and_append (x₁ := a ++ b ++ c) (x₂ := a' ++ b' ++ c')).trans <| congrArg (· ++ (d &&& d')) <|
    (BitVec.and_append (x₁ := a ++ b) (x₂ := a' ++ b')).trans <| congrArg (· ++ (c &&& c')) BitVec.and_append

theorem byteOf_xor (k : Nat) : byteOf (w ^^^ w') k = byteOf w k ^^^ byteOf w' k := BitVec.extractLsb'_xor

end

/-! ### Multiplication in GF(2^8) -/

theorem byte_xor_left_comm (x y z : Byte) : x ^^^ (y ^^^ z) = y ^^^ (x ^^^ z) := by
  rw [← BitVec.xor_assoc, BitVec.xor_comm x, BitVec.xor_assoc]

theorem gfDouble_xor (low a b : Byte) : gfDouble low (a ^^^ b) = gfDouble low a ^^^ gfDouble low b := by
  simp only [gfDouble, BitVec.getLsbD_xor, BitVec.shiftLeft_xor_distrib]
  cases a.getLsbD 7 <;> cases b.getLsbD 7 <;> simp [BitVec.xor_comm, byte_xor_left_comm]

theorem gfMulBits_xor_left (low : Byte) (n : Nat) (a a' b : Byte) :
    gfMulBits low n (a ^^^ a') b = gfMulBits low n a b ^^^ gfMulBits low n a' b := by
  induction n generalizing a a' b with
  | zero => exact BitVec.xor_zero.symm
  | succ n ih =>
    simp only [gfMulBits, gfDouble_xor, ih]
    cases b.getLsbD 0 <;> simp [BitVec.xor_assoc, byte_xor_left_comm]

theorem gfMulBits_gfDouble_left (low : Byte) (n : Nat) (a b : Byte) :
    gfMulBits low n (gfDouble low a) b = gfDouble low (gfMulBits low n a b) := by
  induction n generalizing a b with
  | zero => simp [gfMulBits, gfDouble]
  | succ n ih =>
    simp only [gfMulBits, gfDouble_xor, ih]
    cases b.getLsbD 0 <;> simp [gfDouble]

/-- Doubling in the field of the block cipher (45_block_cipher.md R155). -/
def blkDouble (x : Byte) : Byte := gfDouble 0x1D x

theorem blkDouble_xor (x y : Byte) : blkDouble (x ^^^ y) = blkDouble x ^^^ blkDouble y := gfDouble_xor _ _ _

theorem blkMul_double_left (a x : Byte) : blkMul (blkDouble a) x = blkDouble (blkMul a x) :=
  gfMulBits_gfDouble_left _ _ _ _

theorem blkMul_one (x : Byte) : blkMul 1 x = x := by
  revert x
  decide

theorem blkMul_two (x : Byte) : blkMul 2 x = blkDouble x := by
  rw [show (2 : Byte) = blkDouble 1 from rfl, blkMul_double_left, blkMul_one]

theorem blkMul_four (x : Byte) : blkMul 4 x = blkDouble (blkDouble x) := by
  rw [show (4 : Byte) = blkDouble 2 from rfl, blkMul_double_left, blkMul_two]

theorem blkMul_six (x : Byte) : blkMul 6 x = blkDouble (blkDouble x) ^^^ blkDouble x := by
  rw [← blkMul_four, ← blkMul_two]
  exact gfMulBits_xor_left 0x1D 8 4 2 x

end Sys2Proof.Machine
end

section
/-!
CLAIM. The block cipher inverts itself under the reversed, diffused subkeys (45_block_cipher.md R160). A round is three maps
and a subkey: the S-box on every byte and the transposition of the sixteen bytes, which commute (`blkSubTranspose`), and the
diffusion matrix on every word (`blkDiffuse`). Each map is an involution. So a round of the inverse transform, whose subkey
has gone through the diffusion as well, takes back one round of the transform up to the substitution before it.
-/

namespace Sys2Proof.Machine

/-! ### The diffusion matrix -/

/-- One row of the matrix of 45_block_cipher.md R160; the others permute the bytes. -/
def blkMixByte (a b c d : Byte) : Byte := a ^^^ blkMul 2 b ^^^ blkMul 4 c ^^^ blkMul 6 d

/-- The matrix `(1 2 4 6 / 2 1 6 4 / 4 6 1 2 / 6 4 2 1)` on the bytes of a word (45_block_cipher.md R160). -/
def blkMixWord (w : Word) : Word :=
  be32 (blkMixByte (byteOf w 0) (byteOf w 1) (byteOf w 2) (byteOf w 3))
    (blkMixByte (byteOf w 1) (byteOf w 0) (byteOf w 3) (byteOf w 2))
    (blkMixByte (byteOf w 2) (byteOf w 3) (byteOf w 0) (byteOf w 1))
    (blkMixByte (byteOf w 3) (byteOf w 2) (byteOf w 1) (byteOf w 0))

theorem blkMixByte_eq_doubles (a b c d : Byte) : blkMixByte a b c d =
    a ^^^ blkDouble b ^^^ blkDouble (blkDouble c) ^^^ (blkDouble (blkDouble d) ^^^ blkDouble d) := by
  rw [blkMixByte, blkMul_two, blkMul_four, blkMul_six]

theorem blkMixByte_xor (a b c d a' b' c' d' : Byte) :
    blkMixByte (a ^^^ a') (b ^^^ b') (c ^^^ c') (d ^^^ d') = blkMixByte a b c d ^^^ blkMixByte a' b' c' d' := by
  simp only [blkMixByte_eq_doubles, blkDouble_xor]
  ac_rfl

/-- The square of the matrix is the identity: every other product of entries comes up twice. -/
theorem blkMixByte_blkMixByte (a b c d : Byte) :
    blkMixByte (blkMixByte a b c d) (blkMixByte b a d c) (blkMixByte c d a b) (blkMixByte d c b a) = a := by
  simp only [blkMixByte_eq_doubles, blkDouble_xor, BitVec.xor_assoc]
  simp [BitVec.xor_comm, byte_xor_left_comm]

theorem blkMixWord_be32 (a b c d : Byte) : blkMixWord (be32 a b c d) =
    be32 (blkMixByte a b c d) (blkMixByte b a d c) (blkMixByte c d a b) (blkMixByte d c b a) := by
  rw [blkMixWord, byteOf_be32_zero, byteOf_be32_one, byteOf_be32_two, byteOf_be32_three]

theorem blkMixWord_blkMixWord (w : Word) : blkMixWord (blkMixWord w) = w := by
  rw [← be32_byteOf w, blkMixWord_be32, blkMixWord_be32]
  simp only [blkMixByte_blkMixByte]

theorem blkMixWord_xor (w w' : Word) : blkMixWord (w ^^^ w') = blkMixWord w ^^^ blkMixWord w' := by
  simp only [blkMixWord, byteOf_xor, blkMixByte_xor, be32_xor]

/-! ### Four words -/

/-- The matrix on each of four words. -/
def blkDiffuse (x : Vector Word 4) : Vector Word 4 :=
  #v[blkMixWord x[0], blkMixWord x[1], blkMixWord x[2], blkMixWord x[3]]

/-- The S-box on the bytes `j` of four words, joined to a word. -/
def blkSubColumn (rom : Rom) (x : Vector Word 4) (j : Nat) : Word :=
  be32 (byteEntry rom.blkS (byteOf x[0] j)) (byteEntry rom.blkS (byteOf x[1] j)) (byteEntry rom.blkS (byteOf x[2] j))
    (byteEntry rom.blkS (byteOf x[3] j))

/-- The S-box on all bytes of four words, with the transposition of the bytes. -/
def blkSubTranspose (rom : Rom) (x : Vector Word 4) : Vector Word 4 :=
  #v[blkSubColumn rom x 0, blkSubColumn rom x 1, blkSubColumn rom x 2, blkSubColumn rom x 3]

theorem quad_eta (x : Vector Word 4) : #v[x[0], x[1], x[2], x[3]] = x := by
  ext i hi
  interval_cases i <;> rfl

theorem quad_congr {a b c d a' b' c' d' : Word} (ha : a = a') (hb : b = b') (hc : c = c') (hd : d = d') :
    #v[a, b, c, d] = #v[a', b', c', d'] := by
  rw [ha, hb, hc, hd]

theorem quadXor_self_right (x k : Vector Word 4) : quadXor (quadXor x k) k = x := by
  simp [quadXor, quad_eta]

theorem blkDiffuse_blkDiffuse (x : Vector Word 4) : blkDiffuse (blkDiffuse x) = x :=
  (quad_congr (blkMixWord_blkMixWord x[0]) (blkMixWord_blkMixWord x[1]) (blkMixWord_blkMixWord x[2])
    (blkMixWord_blkMixWord x[3])).trans (quad_eta x)

theorem blkDiffuse_quadXor (x y : Vector Word 4) : blkDiffuse (quadXor x y) = quadXor (blkDiffuse x) (blkDiffuse y) := by
  simp [blkDiffuse, quadXor, blkMixWord_xor]

theorem blkSubTranspose_blkSubTranspose {rom : Rom} (h : BlockSboxInvolutive rom) (x : Vector Word 4) :
    blkSubTranspose rom (blkSubTranspose rom x) = x := by
  have hbyte (y : Byte) : byteEntry rom.blkS (byteEntry rom.blkS y) = y := h y
  simp [blkSubTranspose, blkSubColumn, hbyte, be32_byteOf, quad_eta]

/-! ### What the tables compute -/

section
variable {rom : Rom}

/-- One entry of each of `T0` to `T3`: the S-box, then the matrix (45_block_cipher.md R155). -/
theorem tables_eq_blkMixWord (h : BlockTablesFromSbox rom) (x0 x1 x2 x3 : Byte) :
    wordEntry rom.blkT0 x0 ^^^ wordEntry rom.blkT1 x1 ^^^ wordEntry rom.blkT2 x2 ^^^ wordEntry rom.blkT3 x3 =
      blkMixWord (be32 (byteEntry rom.blkS x0) (byteEntry rom.blkS x1) (byteEntry rom.blkS x2)
        (byteEntry rom.blkS x3)) := by
  obtain ⟨h0, -⟩ := h.1 x0
  obtain ⟨-, h1, -⟩ := h.1 x1
  obtain ⟨-, -, h2, -⟩ := h.1 x2
  obtain ⟨-, -, -, h3, -⟩ := h.1 x3
  rw [h0, h1, h2, h3, be32_xor, be32_xor, be32_xor, blkMixWord_be32]
  simp only [blkMixByte]
  congr 1 <;> ac_rfl

/-- Under the masks the matrix is left out (45_block_cipher.md R159). -/
theorem masked_tables_eq_be32 (h : BlockTablesFromSbox rom) (x0 x1 x2 x3 : Byte) :
    (wordEntry rom.blkT0 x0 &&& 0xFF000000) ^^^ (wordEntry rom.blkT1 x1 &&& 0x00FF0000)
        ^^^ (wordEntry rom.blkT2 x2 &&& 0x0000FF00) ^^^ (wordEntry rom.blkT3 x3 &&& 0x000000FF) =
      be32 (byteEntry rom.blkS x0) (byteEntry rom.blkS x1) (byteEntry rom.blkS x2) (byteEntry rom.blkS x3) := by
  obtain ⟨h0, -⟩ := h.1 x0
  obtain ⟨-, h1, -⟩ := h.1 x1
  obtain ⟨-, -, h2, -⟩ := h.1 x2
  obtain ⟨-, -, -, h3, -⟩ := h.1 x3
  have hm0 : (0xFF000000 : Word) = be32 (BitVec.allOnes 8) 0#8 0#8 0#8 := rfl
  have hm1 : (0x00FF0000 : Word) = be32 0#8 (BitVec.allOnes 8) 0#8 0#8 := rfl
  have hm2 : (0x0000FF00 : Word) = be32 0#8 0#8 (BitVec.allOnes 8) 0#8 := rfl
  have hm3 : (0x000000FF : Word) = be32 0#8 0#8 0#8 (BitVec.allOnes 8) := rfl
  rw [h0, h1, h2, h3, hm0, hm1, hm2, hm3]
  simp only [be32_and, be32_xor, BitVec.and_allOnes, BitVec.and_zero, BitVec.xor_zero, BitVec.zero_xor]

/-- A round (45_block_cipher.md R159): substitution with transposition, diffusion, subkey. -/
theorem blkRound_eq (h : BlockTablesFromSbox rom) (st k : Vector Word 4) :
    blkRound rom st k = quadXor (blkDiffuse (blkSubTranspose rom st)) k := by
  have hcolumn (j : Fin 4) := congrArg (· ^^^ k[j])
    (tables_eq_blkMixWord h (byteOf st[0] j) (byteOf st[1] j) (byteOf st[2] j) (byteOf st[3] j))
  exact quad_congr (hcolumn 0) (hcolumn 1) (hcolumn 2) (hcolumn 3)

/-- The final round has no diffusion (45_block_cipher.md R159). -/
theorem blkFinalRound_eq (h : BlockTablesFromSbox rom) (st k : Vector Word 4) :
    blkFinalRound rom st k = quadXor (blkSubTranspose rom st) k := by
  have hcolumn (j : Fin 4) := congrArg (· ^^^ k[j])
    (masked_tables_eq_be32 h (byteOf st[0] j) (byteOf st[1] j) (byteOf st[2] j) (byteOf st[3] j))
  exact quad_congr (hcolumn 0) (hcolumn 1) (hcolumn 2) (hcolumn 3)

/-- The S-box read from `T4` cancels the one in `T0` to `T3` (45_block_cipher.md R157). -/
theorem blkInvWord_eq (h : BlockTablesFromSbox rom) (hS : BlockSboxInvolutive rom) (v : Word) :
    blkInvWord rom v = blkMixWord v := by
  have hT4 (x : Byte) : (wordEntry rom.blkT4 x).extractLsb' 0 8 = byteEntry rom.blkS x := by
    obtain ⟨-, -, -, -, h4, -⟩ := h.1 x
    rw [h4]
    exact byteOf_be32_three _ _ _ _
  simp only [blkInvWord, tables_eq_blkMixWord h, hT4, hS _, be32_byteOf]

/-! ### Rounds undone -/

theorem blkRounds_succ_last (rk : List (Vector Word 4)) (n r : Nat) (st : Vector Word 4) :
    blkRounds rom rk (n + 1) r st = blkRound rom (blkRounds rom rk n r st) (subkeyAt rk (r + n)) := by
  induction n generalizing r st with
  | zero => rfl
  | succ n ih => rw [blkRounds, ih, blkRounds, Nat.add_right_comm, Nat.add_assoc]

/-- What one round of the inverse transform makes of one round of the transform. -/
theorem blkRound_diffused_subkey (h : BlockTablesFromSbox rom) (hS : BlockSboxInvolutive rom) (st k : Vector Word 4) :
    blkRound rom (blkSubTranspose rom (blkRound rom st k)) (blkDiffuse k) = blkSubTranspose rom st := by
  rw [blkRound_eq h, blkSubTranspose_blkSubTranspose hS, blkRound_eq h, blkDiffuse_quadXor, blkDiffuse_blkDiffuse,
    quadXor_self_right]

/-- The full rounds, the last one undone first. -/
theorem blkRounds_undone (h : BlockTablesFromSbox rom) (hS : BlockSboxInvolutive rom) {rk rk' : List (Vector Word 4)}
    {n r r' : Nat} (hk : ∀ i < n, subkeyAt rk' (r' + i) = blkDiffuse (subkeyAt rk (r + (n - 1 - i)))) (st : Vector Word 4) :
    blkRounds rom rk' n r' (blkSubTranspose rom (blkRounds rom rk n r st)) = blkSubTranspose rom st := by
  induction n generalizing r st with
  | zero => rfl
  | succ n ih =>
    have hlast : subkeyAt rk' (r' + n) = blkDiffuse (subkeyAt rk r) := by simpa using hk n n.lt_succ_self
    have hrest : ∀ i < n, subkeyAt rk' (r' + i) = blkDiffuse (subkeyAt rk (r + 1 + (n - 1 - i))) := fun i hi => by
      rw [hk i (by omega)]
      congr 2
      omega
    rw [blkRounds_succ_last, blkRounds, ih hrest, hlast, blkRound_diffused_subkey h hS]

end

/-! ### Blocks -/

theorem blockWords_blockBytes (st : Vector Word 4) : blockWords (blockBytes st) = st := by
  simp [blockWords, blockBytes, toBe32, byteAt, be32_byteOf, quad_eta]

theorem blockBytes_blockWords {blk : List Byte} (hlen : blk.length = 16) : blockBytes (blockWords blk) = blk := by
  have hbytes : blk = (List.range 16).map (byteAt blk) := by
    refine List.ext_getElem (by simp [hlen]) fun i hi _ => ?_
    simp [byteAt, hi]
  conv_rhs => rw [hbytes]
  simp [blockWords, blockBytes, toBe32, List.range_succ]

/-! ### Inverse schedules -/

/-- The relation of `ke` and `kd` (45_block_cipher.md R157): the subkeys in reverse order, those between the first and the
last through the diffusion. -/
structure InverseSchedules (rk rk' : List (Vector Word 4)) (rounds : Nat) : Prop where
  first : subkeyAt rk' 0 = subkeyAt rk rounds
  last : subkeyAt rk' rounds = subkeyAt rk 0
  middle : ∀ r, 0 < r → r < rounds → subkeyAt rk' r = blkDiffuse (subkeyAt rk (rounds - r))

theorem InverseSchedules.symm {rk rk' : List (Vector Word 4)} {rounds : Nat} (h : InverseSchedules rk rk' rounds) :
    InverseSchedules rk' rk rounds where
  first := h.last.symm
  last := h.first.symm
  middle r hpos hlt := by
    rw [h.middle (rounds - r) (by omega) (by omega), blkDiffuse_blkDiffuse, Nat.sub_sub_self hlt.le]

section
variable {rom : Rom}

theorem subkeyAt_blkInvKeys (ke : List (Vector Word 4)) {rounds r : Nat} (h : BlockTablesFromSbox rom)
    (hS : BlockSboxInvolutive rom) (hr : r ≤ rounds) :
    subkeyAt (blkInvKeys rom ke rounds) r =
      if r = 0 ∨ r = rounds then subkeyAt ke (rounds - r) else blkDiffuse (subkeyAt ke (rounds - r)) := by
  have hlt : r < rounds + 1 := by omega
  simp only [blkInvKeys, blkInvWord_eq h hS]
  rw [subkeyAt, List.getD_eq_getElem?_getD, List.getElem?_map, List.getElem?_range hlt]
  rfl

theorem inverseSchedules_blkInvKeys (h : BlockTablesFromSbox rom) (hS : BlockSboxInvolutive rom)
    (ke : List (Vector Word 4)) (rounds : Nat) : InverseSchedules ke (blkInvKeys rom ke rounds) rounds where
  first := by rw [subkeyAt_blkInvKeys ke h hS rounds.zero_le, if_pos (.inl rfl), Nat.sub_zero]
  last := by rw [subkeyAt_blkInvKeys ke h hS le_rfl, if_pos (.inr rfl), Nat.sub_self]
  middle r hpos hlt := by rw [subkeyAt_blkInvKeys ke h hS hlt.le, if_neg (by omega)]

/-- The block transform is undone by the transform under an inverse schedule. -/
theorem blkTransform_blkTransform (h : BlockTablesFromSbox rom) (hS : BlockSboxInvolutive rom)
    {rk rk' : List (Vector Word 4)} {rounds : Nat} (hk : InverseSchedules rk rk' rounds) {blk : List Byte}
    (hlen : blk.length = 16) : blkTransform rom rk' rounds (blkTransform rom rk rounds blk) = blk := by
  have hmiddle : ∀ i < rounds - 1, subkeyAt rk' (1 + i) = blkDiffuse (subkeyAt rk (1 + (rounds - 1 - 1 - i))) :=
    fun i hi => by
      rw [hk.middle (1 + i) (by omega) (by omega)]
      congr 2
      omega
  simp only [blkTransform, blockWords_blockBytes, blkFinalRound_eq h]
  rw [hk.first, quadXor_self_right, blkRounds_undone h hS hmiddle, blkSubTranspose_blkSubTranspose hS, hk.last,
    quadXor_self_right, blockBytes_blockWords hlen]

end

/-! ### The reference tables -/

/-- The reference tables are those of the formulas (45_block_cipher.md R155). -/
theorem refRom_blockTablesFromSbox : BlockTablesFromSbox refRom := by
  unfold BlockTablesFromSbox
  decide +kernel

/-- The reference S-box is its own inverse (45_block_cipher.md R155). -/
theorem refRom_blockSboxInvolutive : BlockSboxInvolutive refRom := by
  unfold BlockSboxInvolutive
  decide +kernel

/-- Settles O59: the schedules of one key are inverse to each other, in both directions. -/
theorem blockDecryptInvertsEncrypt : Obligations.BlockDecryptInvertsEncrypt := by
  unfold Obligations.BlockDecryptInvertsEncrypt
  intro key blk _ hlen
  have hschedules := inverseSchedules_blkInvKeys refRom_blockTablesFromSbox refRom_blockSboxInvolutive
    (blkInit refRom key true).ke (blkInit refRom key true).r
  exact ⟨blkTransform_blkTransform refRom_blockTablesFromSbox refRom_blockSboxInvolutive hschedules hlen,
    blkTransform_blkTransform refRom_blockTablesFromSbox refRom_blockSboxInvolutive hschedules.symm hlen⟩

end Sys2Proof.Machine
end

section
/-!
SUPPORT. What an error does (60_exceptions.md R177 to R182): the layout of STATUS as the formula of R182, the report of every
command, and INIT as the one source of class 1.
-/

namespace Sys2Proof.Machine

/-! ### The STATUS word -/

/-- STATUS as 60_exceptions.md R182 writes it: the four fields shifted to their places. -/
theorem statusWord_eq_or (cw : Word) (cls : BitVec 2) (code : BitVec 4) :
    statusWord cw cls code = cls.setWidth 32 ||| (code.setWidth 32 <<< 4) ||| ((ctxField cw).setWidth 32 <<< 8)
      ||| ((opField cw).setWidth 32 <<< 12) := by
  apply BitVec.eq_of_getLsbD_eq
  intro j hj
  simp only [getLsbD_statusWord, BitVec.getLsbD_or, BitVec.getLsbD_shiftLeft, BitVec.getLsbD_setWidth]
  interval_cases j <;> simp

/-- `STATUS.OP` echoes the command word (10_state.md R40). -/
theorem extractLsb'_op_statusWord (cw : Word) (cls : BitVec 2) (code : BitVec 4) :
    (statusWord cw cls code).extractLsb' 12 4 = opField cw := by
  apply eq_of_four_bits <;> simp only [BitVec.getLsbD_extractLsb', getLsbD_statusWord] <;> rfl

/-- `STATUS.CTX` echoes the command word (10_state.md R40). -/
theorem extractLsb'_ctx_statusWord (cw : Word) (cls : BitVec 2) (code : BitVec 4) :
    (statusWord cw cls code).extractLsb' 8 4 = ctxField cw := by
  apply eq_of_four_bits <;> simp only [BitVec.getLsbD_extractLsb', getLsbD_statusWord] <;> rfl

/-- Settles O13: each clause is `State.raise` or `State.succeed` with STATUS spelled by the formula. -/
theorem raiseWritesStatus : Obligations.RaiseWritesStatus := by
  unfold Obligations.RaiseWritesStatus
  intro s word
  have hword (cls : BitVec 2) (code : BitVec 4) : statusWord s.cmd cls code = word cls code :=
    statusWord_eq_or s.cmd cls code
  refine ⟨fun e => ?_, fun e => ?_, ?_, fun result => ?_⟩
  · rw [raise_usage, ← hword]; rfl
  · rw [raise_terminal, ← hword]; rfl
  · rw [raise_terminal, ← hword]; rfl
  · rw [succeed_eq, ← hword]; rfl

/-! ### The report of a command -/

/-- A command word `cw` has been reported: it is in `CMD`, STATUS echoes it with a class and code that CORE produces, and
RESULT is 0 after an error (10_state.md R38, R40, R41). -/
def State.Reports (t : State) (cw : Word) : Prop :=
  ∃ cls code, LegalOutcome cls code ∧ t.cmd = cw ∧ t.status = statusWord cw cls code ∧ (cls ≠ 0 → t.result = 0)

/-- Raising an error is a report (60_exceptions.md R181, R182). -/
theorem reports_error {t : State} {cw : Word} (e : CoreError) (hcmd : t.cmd = cw) :
    (t.report (errorStatus cw e) 0).Reports cw :=
  ⟨e.cls, e.code, legalOutcome_error e, hcmd, rfl, fun _ => rfl⟩

/-- Success is a report (60_exceptions.md R182). -/
theorem reports_done (s : State) (i : Instr) (result : Word) : (s.done i result).Reports (encode i) :=
  ⟨0, 0, legalOutcome_ok, rfl, rfl, fun h => absurd rfl h⟩

/-- Every command is reported, as a usage error, a terminal error or a success (60_exceptions.md R182). -/
theorem CommandEffect.reports {s t : State} {i : Instr} (he : CommandEffect s i t) : t.Reports (encode i) := by
  cases he with
  | refused _ e => exact reports_error (.usage e) rfl
  | initKilled | processLimit | retbyteLimit => exact reports_error (.terminal _) rfl
  | _ => exact reports_done _ _ _

/-- Every word written to `CMD` is reported, legal or not (30_encoding.md R79, 60_exceptions.md R182). -/
theorem runCommand_reports (cw : Word) (s : State) : ∃ t, runCommand cw s = .next t ∧ t.Reports cw := by
  unfold runCommand
  split
  · rename_i i hdecode
    obtain ⟨t, ht, he⟩ := exec_effect s i
    exact ⟨t, ht, encode_of_decode hdecode ▸ he.reports⟩
  · exact ⟨_, rfl, reports_error (t := s.latch cw) (.usage .illegalCmd) rfl⟩

/-- Settles O14: the report field by field. -/
theorem everyCommandReportsItsOutcome : Obligations.EveryCommandReportsItsOutcome := by
  unfold Obligations.EveryCommandReportsItsOutcome
  intro cw s
  obtain ⟨t, ht, cls, code, hlegal, hcmd, hstatus, hresult⟩ := runCommand_reports cw s
  obtain ⟨hlow, hhigh⟩ := statusWord_reserved cw cls code
  refine ⟨t, ht, hcmd, ?_⟩
  rw [hstatus, statusClass_statusWord, statusCode_statusWord]
  exact ⟨extractLsb'_op_statusWord cw cls code, extractLsb'_ctx_statusWord cw cls code, hlow, hhigh, hlegal, hresult⟩

/-! ### Class 1 -/

theorem opField_encode_initOf (eng : Engine) (c : BitVec 4) (a : InitOperands) : opField (encode (initOf eng c a)) = 1 := by
  rw [opField_encode]
  cases eng <;> rfl

/-- STATUS after an INIT that failed its configuration check (60_exceptions.md R178, R182). -/
theorem errorStatus_initOf (eng : Engine) (c : BitVec 4) (a : InitOperands) (e : ConfigError) :
    errorStatus (encode (initOf eng c a)) (.terminal (.config e)) = 0#16 ++ 1#4 ++ c ++ e.code ++ 0#2 ++ 1#2 := by
  have hword : errorStatus (encode (initOf eng c a)) (.terminal (.config e)) =
      0#16 ++ opField (encode (initOf eng c a)) ++ ctxField (encode (initOf eng c a)) ++ e.code ++ 0#2 ++ 1#2 := rfl
  rw [hword, opField_encode_initOf, ctxField_encode, ctxOf_initOf]
  rfl

/-- Only an INIT reports class 1: the other terminal error is WORD_LIMIT, of class 3 (60_exceptions.md R178, R180). -/
theorem CommandEffect.isInit_of_class_one {s t : State} {i : Instr} (he : CommandEffect s i t)
    (hclass : statusClass t.status = 1) : i.IsInit := by
  cases he with
  | initKilled eng c a e => exact ⟨eng, c, a, rfl⟩
  | processLimit | retbyteLimit => simp [TerminalError.cls] at hclass
  | _ => simp at hclass

/-- An INIT that reports class 1 failed its configuration check (40_contract.md R84). -/
theorem check_of_init_class_one {s t : State} {eng : Engine} {c : BitVec 4} {a : InitOperands}
    (hexec : exec (initOf eng c a) s = .next t) (hclass : statusClass t.status = 1) :
    ∃ e, configCheck eng a = some e ∧ statusCode t.status = e.code := by
  rcases execInit_cases s eng c a with ⟨-, h⟩ | ⟨-, -, h⟩ | ⟨-, -, e, hcheck, h⟩ | ⟨-, -, -, h⟩ <;>
    obtain rfl := Host.Outcome.next.inj (h.symm.trans hexec)
  · simp at hclass
  · simp at hclass
  · exact ⟨e, hcheck, statusCode_killedWith _ _ _ _⟩
  · simp at hclass

/-- Settles O22: `State.killedWith` with STATUS spelled out, and class 1 traced back to the check. -/
theorem initConfigErrorKills : Obligations.InitConfigErrorKills := by
  unfold Obligations.InitConfigErrorKills
  refine ⟨fun eng c a e s hc hx hcheck => ?_, fun i s t hexec hclass => ?_⟩
  · rw [exec_initOf_of_check_some hc hx hcheck, State.killedWith, errorStatus_initOf]
    rfl
  · obtain ⟨eng, c, a, rfl⟩ := (commandEffect_of_exec hexec).isInit_of_class_one hclass
    obtain ⟨e, hcheck, hcode⟩ := check_of_init_class_one hexec hclass
    exact ⟨eng, c, a, e, rfl, hcheck, hcode⟩

end Sys2Proof.Machine
end

section
/-!
SUPPORT. Commands on different contexts (60_exceptions.md R192): what one command writes is one context or one slot, and a
command that names neither does not see that write.
-/

namespace Sys2Proof.Machine

/-! ### A slot a command does not name -/

theorem setSnapshot_comm (s : State) {k l : BitVec 4} (h : l ≠ k) (x y : Option Snapshot) :
    (s.setSnapshot k x).setSnapshot l y = (s.setSnapshot l y).setSnapshot k x := by
  have hne : k.toNat ≠ l.toNat := fun e => h (BitVec.eq_of_toNat_eq e.symm)
  simp [State.setSnapshot, List.set_comm _ _ hne]

/-- The outcome with slot `k` written after it. Each shared operation and each command below commutes with the write. -/
def writeSlot (k : BitVec 4) (x : Option Snapshot) : Out → Out
  | .next t => .next (t.setSnapshot k x)
  | .fault r => .fault r
  | .refused r => .refused r

section
variable {k : BitVec 4} {x : Option Snapshot}

theorem ite_writeSlot {p : Prop} [Decidable p] {a a' b b' : Out} (ha : a' = writeSlot k x a) (hb : b' = writeSlot k x b) :
    (if p then a' else b') = writeSlot k x (if p then a else b) := by
  rw [apply_ite (writeSlot k x), ha, hb]

theorem onContext_setSnapshot (i : Instr) (c : BitVec 4) (s : State) {body : State → Context → Out}
    (hbody : ∀ s y, body (s.setSnapshot k x) y = writeSlot k x (body s y)) :
    onContext i c (s.setSnapshot k x) body = writeSlot k x (onContext i c s body) := by
  rcases onContext_cases s i c body with ⟨hc, h⟩ | ⟨hc, h⟩
  · rw [h, ← hbody]
    exact onContext_of_lt (s.setSnapshot k x) i body hc
  · rw [h]
    exact onContext_of_ge (s.setSnapshot k x) i body hc

theorem needReady_setSnapshot (s : State) (y : Context) {body body' : CipherState → CipherState → Out}
    (hbody : ∀ cur rst, body' cur rst = writeSlot k x (body cur rst)) :
    needReady (s.setSnapshot k x) y body' = writeSlot k x (needReady s y body) := by
  cases y with
  | empty | dead => rfl
  | ready cur rst => exact hbody cur rst

theorem needSlot_setSnapshot (s : State) (l : BitVec 4) {body body' : Out} (hbody : body' = writeSlot k x body) :
    needSlot (s.setSnapshot k x) l body' = writeSlot k x (needSlot s l body) := by
  rw [hbody]
  rcases needSlot_cases s l body with ⟨hl, h⟩ | ⟨hl, h⟩ <;> rw [h]
  · exact needSlot_of_lt (s.setSnapshot k x) hl _
  · exact if_pos (Nat.not_lt.mp hl)

theorem execInit_setSnapshot (s : State) (eng : Engine) (c : BitVec 4) (a : InitOperands) :
    exec (initOf eng c a) (s.setSnapshot k x) = writeSlot k x (exec (initOf eng c a) s) := by
  rw [exec_initOf, exec_initOf]
  refine onContext_setSnapshot _ c s fun s y => ?_
  have hsetup : setupOf eng a (s.setSnapshot k x) = setupOf eng a s := by cases eng <;> rfl
  cases y with
  | dead => rfl
  | empty | ready =>
    rw [hsetup]
    cases configCheck eng a <;> rfl

theorem processStream_setSnapshot (s : State) (c : BitVec 4) (st : StreamState) (rst : CipherState) :
    processStream c (s.setSnapshot k x) st rst = writeSlot k x (processStream c s st rst) := by
  cases ht : takeBytes s.cfg s.len st with
  | none =>
    rw [processStream_none s c rst ht, processStream_none (s.setSnapshot k x) c rst ht]
    rfl
  | some p =>
    rw [processStream_some s c rst ht, processStream_some (s.setSnapshot k x) c rst ht]
    rfl

theorem execProcess_setSnapshot (s : State) (c : BitVec 4) :
    execProcess c (s.setSnapshot k x) = writeSlot k x (execProcess c s) := by
  refine onContext_setSnapshot _ c s fun s y => needReady_setSnapshot s y fun cur rst => ?_
  refine ite_writeSlot ?_ rfl
  cases cur with
  | stream st => exact processStream_setSnapshot s c st rst
  | blk st => exact ite_writeSlot (p := s.len % 16 = 0) rfl rfl

theorem execRetbyte_setSnapshot (s : State) (c : BitVec 4) (b : Byte) :
    execRetbyte c b (s.setSnapshot k x) = writeSlot k x (execRetbyte c b s) := by
  refine onContext_setSnapshot _ c s fun s y => needReady_setSnapshot s y fun cur rst => ?_
  cases cur with
  | blk st => rfl
  | stream st =>
    simp only [setSnapshot_cfg]
    cases nextByte s.cfg st <;> rfl

theorem execReset_setSnapshot (s : State) (c : BitVec 4) :
    execReset c (s.setSnapshot k x) = writeSlot k x (execReset c s) := by
  refine onContext_setSnapshot _ c s fun s y => needReady_setSnapshot s y fun cur rst => ?_
  rfl

theorem execDrop_setSnapshot (s : State) (c : BitVec 4) :
    execDrop c (s.setSnapshot k x) = writeSlot k x (execDrop c s) := by
  refine onContext_setSnapshot _ c s fun s y => ?_
  rfl

theorem execRestore_setSnapshot (s : State) (c : BitVec 4) {l : BitVec 4} (hl : l ≠ k) :
    execRestore c l (s.setSnapshot k x) = writeSlot k x (execRestore c l s) := by
  refine onContext_setSnapshot _ c s fun s y => needSlot_setSnapshot s l ?_
  cases y with
  | dead => rfl
  | empty | ready =>
    simp only [snapshotAt_setSnapshot_ne s hl]
    cases s.snapshotAt l with
    | none => rfl
    | some snap => exact ite_writeSlot (p := engineDiffers _ snap = true) rfl rfl

theorem execSnapshot_setSnapshot (s : State) (c : BitVec 4) {l : BitVec 4} (hl : l ≠ k) :
    execSnapshot c l (s.setSnapshot k x) = writeSlot k x (execSnapshot c l s) := by
  refine onContext_setSnapshot _ c s fun s y => needSlot_setSnapshot s l (needReady_setSnapshot s y fun cur rst => ?_)
  rw [setSnapshot_comm s hl]
  rfl

/-- No command reads a slot it does not name (10_state.md R23). -/
theorem exec_setSnapshot {i : Instr} (hi : i.slotOf ≠ some k) (s : State) :
    exec i (s.setSnapshot k x) = writeSlot k x (exec i s) := by
  cases i with
  | initLf128 c a => exact execInit_setSnapshot s .lf128 c a
  | initLf256 c a => exact execInit_setSnapshot s .lf256 c a
  | initCtr c a => exact execInit_setSnapshot s .ctr c a
  | initSrp c a => exact execInit_setSnapshot s .srp c a
  | initBlk c a => exact execInit_setSnapshot s .blk c a
  | process c => exact execProcess_setSnapshot s c
  | retbyte c b => exact execRetbyte_setSnapshot s c b
  | reset c => exact execReset_setSnapshot s c
  | snapshot c l => exact execSnapshot_setSnapshot s c fun h => hi (h ▸ rfl)
  | restore c l => exact execRestore_setSnapshot s c fun h => hi (h ▸ rfl)
  | drop c => exact execDrop_setSnapshot s c

end

/-! ### What a command reports in -/

/-- Two states that differ in STATUS, RESULT, `OBUF` and the counter of free values at most. -/
def EqButReport (u s : State) : Prop :=
  u = { s with status := u.status, result := u.result, obuf := u.obuf, freeCount := u.freeCount }

/-- Every command keeps states equal but for what commands report in. -/
theorem simulation_eqButReport (c : BitVec 4) : Simulation c EqButReport where
  cfg_eq h := by rw [h]
  cmd_eq h := by rw [h]
  context_eq h := by rw [h]; rfl
  snapshotAt_eq h k := by rw [h]; rfl
  latch h cw := by rw [h]; rfl
  report h st res := by rw [h]; rfl
  setContext h x := by rw [h]; rfl
  setSnapshot h k x := by rw [h]; rfl

theorem initSimulation_eqButReport : InitSimulation EqButReport := by
  intro u s h eng a
  rw [h]
  cases eng <;> rfl

theorem processSimulation_eqButReport : ProcessSimulation EqButReport where
  arg0_eq h := by rw [h]
  arg1_eq h := by rw [h]
  arg2_eq h := by rw [h]
  ibuf_eq h a := by rw [h]; rfl
  writeObuf h base bs := by rw [h]; rfl
  leaveResidue h := by rw [h]; rfl

/-- A command overwrites `CMD` before it reads it (40_contract.md R82). -/
theorem exec_latch (i : Instr) (s : State) (cw : Word) : exec i (s.latch cw) = exec i s := by
  cases i <;> rfl

/-- No command reads what the command before it left in `CMD`, STATUS, RESULT and `OBUF`. -/
theorem exec_eqButReport {i : Instr} {s u t : State} {cw : Word} (hu : EqButReport u (s.latch cw))
    (h : exec i s = .next t) : ∃ v, exec i u = .next v ∧ EqButReport v t :=
  (simulation_eqButReport i.ctxOf).exec_next (fun _ => initSimulation_eqButReport)
    (fun _ => processSimulation_eqButReport) hu ((exec_latch i s cw).trans h)

/-! ### What a command writes -/

/-- Beside its report a command writes the context it names, or the slot it names (10_state.md R34). -/
theorem CommandEffect.writes {s t : State} {i : Instr} (he : CommandEffect s i t) :
    (∃ x, EqButReport t ((s.setContext i.ctxOf x).latch (encode i))) ∨
    ∃ k x, i.slotOf = some k ∧ EqButReport t ((s.setSnapshot k x).latch (encode i)) := by
  cases he with
  | refused => exact .inl ⟨s.context i.ctxOf, by rw [setContext_context]; rfl⟩
  | processBlk c => exact .inl ⟨s.context c, by rw [Instr.ctxOf, setContext_context]; rfl⟩
  | snapshotDone c k => exact .inr ⟨k, _, rfl, rfl⟩
  | initKilled eng c a | initDone eng c a => exact .inl ⟨_, by rw [ctxOf_initOf]; rfl⟩
  | _ => exact .inl ⟨_, rfl⟩

theorem CommandEffect.snapshotAt_of_not_named {s t : State} {i : Instr} (he : CommandEffect s i t) {k : BitVec 4}
    (hk : i.slotOf ≠ some k) : t.snapshotAt k = s.snapshotAt k :=
  he.snapshotAt_eq fun _ h => hk (h ▸ rfl)

section
variable {i j : Instr} {s t u t' u' : State}

/-- A command `j` after a command `i` leaves what it leaves without it, but for the context and the slot that `i` names. -/
theorem exec_after_other (hctx : i.ctxOf ≠ j.ctxOf) (hslot : ∀ k, i.slotOf = some k → j.slotOf ≠ some k)
    (hi : exec i s = .next t) (hju : exec j t = .next u) (hj : exec j s = .next t') :
    (∀ c, c ≠ i.ctxOf → u.context c = t'.context c) ∧ (∀ k, i.slotOf ≠ some k → u.snapshotAt k = t'.snapshotAt k) := by
  rcases (commandEffect_of_exec hi).writes with ⟨x, ht⟩ | ⟨l, x, hl, ht⟩
  · obtain ⟨v, hv, hrel⟩ := exec_eqButReport ht (exec_setContext hctx x hj)
    obtain rfl := Host.Outcome.next.inj (hv.symm.trans hju)
    rw [hrel]
    exact ⟨fun c hc => context_setContext_ne t' hc x, fun _ _ => rfl⟩
  · have hl' : exec j (s.setSnapshot l x) = .next (t'.setSnapshot l x) := by rw [exec_setSnapshot (hslot l hl), hj]; rfl
    obtain ⟨v, hv, hrel⟩ := exec_eqButReport ht hl'
    obtain rfl := Host.Outcome.next.inj (hv.symm.trans hju)
    rw [hrel]
    exact ⟨fun _ _ => rfl, fun k hk => snapshotAt_setSnapshot_ne t' (fun h => hk (hl.trans (congrArg some h.symm))) x⟩

/-- Both orders agree off the context and the slot of `i`: there both leave what `j` alone leaves. -/
theorem orders_agree_off (hctx : i.ctxOf ≠ j.ctxOf) (hslot : ∀ k, i.slotOf = some k → j.slotOf ≠ some k)
    (hi : exec i s = .next t) (hju : exec j t = .next u) (hj : exec j s = .next t') (hiu : exec i t' = .next u') :
    (∀ c, c ≠ i.ctxOf → u.context c = u'.context c) ∧ (∀ k, i.slotOf ≠ some k → u.snapshotAt k = u'.snapshotAt k) := by
  obtain ⟨hcontext, hsnapshot⟩ := exec_after_other hctx hslot hi hju hj
  have he := commandEffect_of_exec hiu
  exact ⟨fun c hc => (hcontext c hc).trans (he.context_ne hc).symm,
    fun k hk => (hsnapshot k hk).trans (he.snapshotAt_of_not_named hk).symm⟩

end

/-- Settles O50: the orders agree off what `i` names and off what `j` names, and nothing is named by both. -/
theorem commandsOnDifferentContextsCommute : Obligations.CommandsOnDifferentContextsCommute := by
  unfold Obligations.CommandsOnDifferentContextsCommute
  intro i j s t u t' u' hctx hslot hi hju hj hiu
  obtain ⟨hoffCtx, hoffSlot⟩ := orders_agree_off hctx hslot hi hju hj hiu
  obtain ⟨hoffCtx', hoffSlot'⟩ := orders_agree_off hctx.symm (fun k hk hk' => hslot k hk' hk) hj hiu hi hju
  refine ⟨fun c => ?_, fun k => ?_⟩
  · by_cases hc : c = i.ctxOf
    · exact (hoffCtx' c (hc ▸ hctx)).symm
    · exact hoffCtx c hc
  · by_cases hk : i.slotOf = some k
    · exact (hoffSlot' k (hslot k hk)).symm
    · exact hoffSlot k hk

end Sys2Proof.Machine
end
